-- ==== Sys2Proof/Word.lean ====
section
/-! DEFINITION. The bit vectors of the link: a byte of a frame and a 16-bit report value (spec/01, R2, R17). -/

namespace Sys2Proof

/-- One byte of a frame: the eight low bits of a character (R2). -/
abbrev Byte := BitVec 8

/-- A 16-bit quantity, two bytes of a frame, high byte first (R17). -/
abbrev Word := BitVec 16

end Sys2Proof
end

