-- ==== Sys2Proof/Syntax.lean ====
section
/-! DEFINITION. The commands: one constructor of `Instr` per row of spec/opcode_table.json, with the operands the
layouts of R17 and R18 give it. No row has bits in the table. -/

namespace Sys2Proof

/-- The two ports of the concentrator (spec/01, Ports and characters). -/
inductive Port where
  | surface
  | console
  deriving DecidableEq, Repr

/-- The level of a line (R2, R14). -/
inductive Line where
  | marking
  | spacing
  deriving DecidableEq, Repr

/-- What a receive line delivers to its framer (R2): a start character, a continuation character, or a
character error. -/
inductive LineEvent where
  | start (b : Byte)
  | continuation (b : Byte)
  | error
  deriving DecidableEq, Repr

/-- A frame whose header has passed R6: four kind bits, six address bits, and a payload. The length byte is the
payload's length. -/
structure Frame where
  kind    : BitVec 4
  addr    : BitVec 6
  payload : List Byte
  deriving DecidableEq, Repr

/-- One entry of an Element Report frame (R17, layout of Element Report). -/
structure ReportEntry where
  element : Byte
  value   : Word
  deriving DecidableEq, Repr

/-- The commands. The docstring of each names its row of spec/opcode_table.json; the requests carry the tag and the
argument fields of their Request frame (R18). -/
inductive Instr where
  /-- TICK (R1): `line` is the level of the console receive line at the tick event. -/
  | tick (line : Line)
  /-- ELEMENT_REPORT (R22) from the station `addr`. -/
  | elementReport (addr : BitVec 6) (entries : List ReportEntry)
  /-- SWEEP_END (R25): sweep number, report count and flags byte. -/
  | sweepEnd (addr : BitVec 6) (number count flags : Byte)
  /-- PASS_THROUGH (R130): a surface frame. -/
  | passThrough (frame : Frame)
  /-- MALFORMED_FRAME (R6) on a port. -/
  | malformedFrame (port : Port)
  /-- MISADDRESSED (R11): a frame on a port. -/
  | misaddressed (port : Port) (frame : Frame)
  /-- REQUEST (R145): any Request frame addressed 63. -/
  | request (tag code : Byte) (args : List Byte)
  /-- SERVICE_DONE (R125) naming a lane. -/
  | serviceDone (lane : Byte)
  /-- INDICATOR (R137) from the console. -/
  | indicator (addr : BitVec 6) (number mode : Byte)
  /-- PACE (R139) from the console, to address 0. -/
  | pace (pace : Byte)
  /-- FORWARDED_FRAME (R134): a console frame the merger does not watch. -/
  | forwardedFrame (frame : Frame)
  /-- READ_STATUS (R149). -/
  | readStatus (tag : Byte)
  /-- READ_SETTINGS (R150). -/
  | readSettings (tag : Byte)
  /-- WRITE_SETTINGS (R150). -/
  | writeSettings (tag : Byte) (brisk slow : Word) (quiet ceiling burst : Byte)
  /-- READ_MODULE (R151). -/
  | readModule (tag addr : Byte)
  /-- WRITE_MODULE (R35, R151). -/
  | writeModule (tag addr enabled : Byte) (base : Word) (count : Byte)
  /-- READ_ELEMENT (R58). -/
  | readElement (tag : Byte) (index : Word)
  /-- WRITE_ELEMENT (R52): `params` is the parameter part as sent. -/
  | writeElement (tag : Byte) (index : Word) (cls lane : Byte) (params : List Byte)
  /-- READ_LANE (R153). -/
  | readLane (tag lane : Byte)
  /-- WRITE_LANE (R153). -/
  | writeLane (tag lane priority masked mode urgent quota : Byte) (limit : Word)
  /-- READ_PROFILE (R154). -/
  | readProfile (tag profile : Byte)
  /-- WRITE_PROFILE (R154). -/
  | writeProfile (tag profile : Byte) (delay interval : Word) (limit : Byte)
  /-- READ_COUNTERS (R155). -/
  | readCounters (tag clear : Byte)
  /-- COLD_REQUEST (R156): a Restart request of form Cold. -/
  | coldRequest (tag : Byte)
  /-- WARM_REQUEST (R156): a Restart request of form Warm. -/
  | warmRequest (tag : Byte)
  /-- CAPTURE_CONTROL (R165). -/
  | captureControl (tag enabled filter clear : Byte)
  /-- CAPTURE_READ (R166). -/
  | captureRead (tag count : Byte)
  /-- AWAITING_SLOT_END (R146). -/
  | awaitingSlotEnd
  /-- FLUSH_COMPLETE (R41). -/
  | flushComplete
  /-- CONSOLE_SELECTION (R120). -/
  | consoleSelection
  /-- CONSOLE_FRAME_SENT (R122). -/
  | consoleFrameSent
  /-- SURFACE_FRAME_START (R3). -/
  | surfaceFrameStart
  /-- SURFACE_FRAME_SENT (R133). -/
  | surfaceFrameSent
  /-- PAUSE_IN_ASSERT (R12). -/
  | pauseInAssert
  /-- PAUSE_IN_DEASSERT (R12). -/
  | pauseInDeassert
  /-- LINK_BREAK (R15). -/
  | linkBreak
  /-- LINK_BREAK_END (R16). -/
  | linkBreakEnd
  /-- POWER_ON_RESET (R158). -/
  | powerOnReset
  /-- POWER_ON_RESET_RELEASE (R158). -/
  | powerOnResetRelease
  /-- WATCHDOG_EXPIRY (R33) of a module address. -/
  | watchdogExpiry (addr : BitVec 6)
  /-- REPEAT_TIMER_EXPIRY (R69) of an element index. -/
  | repeatTimerExpiry (index : Nat)
  /-- PACE_TIMER_EXPIRY (R92) of an element index. -/
  | paceTimerExpiry (index : Nat)
  /-- SERVICE_TIMER_EXPIRY (R124) of a lane. -/
  | serviceTimerExpiry (lane : Fin 8)
  /-- RETURN_TO_MARKING (R14). -/
  | returnToMarking
  /-- CHARACTER_EVENT (R5) on a port. -/
  | characterEvent (port : Port) (event : LineEvent)
  deriving DecidableEq, Repr

end Sys2Proof
end

