-- ==== Sys2Proof/Decode.lean ====
section
/-! DEFINITION. Words of the opcode table. The block has no instruction encoding: spec/opcode_table.json gives no row
any bits (its rows have no fixed bits and no fields), so no word spells a command. Commands reach the block as frames,
line events and internal events, not as words (log 22). -/

namespace Sys2Proof

/-- The command a word of the opcode table spells: none, since no row of the table has bits. -/
def decodeTableWord (_nbits _w : Nat) : Option Instr := none

end Sys2Proof
end

