-- ==== Sys2Proof/Config.lean ====
section
/-! DEFINITION. The sizes the spec fixes for this part. The spec leaves no value of an operation open, so there is no
free value here (INVENTORY.md, What the manual leaves open). -/

namespace Sys2Proof.Config

/-- Report slots of the sweep buffer (R21). -/
abbrev sweepSlots : Nat := 256
/-- Slots of the notice pool (R99). -/
abbrev poolSlots : Nat := 128
/-- Entries of the outbound queue (R133). -/
abbrev outboundEntries : Nat := 32
/-- Forwarded frames the outbound queue takes at most (R133, R134). -/
abbrev forwardedLimit : Nat := 28
/-- Pause-out is asserted while fewer entries than this are free (R13). -/
abbrev pauseOutFree : Nat := 8
/-- Entries of the pass-through queue (R130). -/
abbrev passEntries : Nat := 16
/-- Entries of the request queue (R145). -/
abbrev requestEntries : Nat := 4
/-- Entries of the reply queue (R147). -/
abbrev replyEntries : Nat := 4
/-- Entries the capture ring holds at most (R160). -/
abbrev captureEntries : Nat := 256
/-- Entries of the element table (R44). -/
abbrev elementCount : Nat := 1024
/-- The longest payload of a frame (R5). -/
abbrev maxPayload : Nat := 240
/-- Where the 16-bit counters stay (R11, R43, R113, R131, R143, R145, R167). -/
abbrev counterTop : Nat := 65535
/-- Where the one-byte counts stay (R20, R50, R112). -/
abbrev countTop : Nat := 255
/-- The largest magnitude of a carry (R104). -/
abbrev carryTop : Int := 32767
/-- The largest burst count (R121). -/
abbrev burstTop : Nat := 32

end Sys2Proof.Config
end

