-- ==== Sys2Proof/Machine/State.lean ====
section
/-! DEFINITION. The state of the concentrator as plain data, and its value right after a power-on restart
(spec/01 to spec/10, the State list of INVENTORY.md). -/

namespace Sys2Proof.Machine

/-- The spec names no condition that stops the block, so there is no fault (INVENTORY.md, Faults). -/
inductive Fault where
  deriving DecidableEq, Repr

/-- The one refusal is the interface's own. -/
inductive Refusal where
  /-- Raised by an arm of `exec` for a row without a meaning; no arm raises it in this model. Safe: the run stops. -/
  | notModelled (mnemonic : String)
  deriving DecidableEq, Repr

/-- A tick timer (R1): `none` is stopped; `some n` is running with n ticks to go; `some 0` has reached its tick event and
its expiry is due and not yet taken (log 3). -/
abbrev Timer := Option Nat

/-! ## Tables (spec/02 R19, spec/03 R44 R45, spec/04 R68, spec/07 R115, spec/09 R150) -/

/-- The settings record (R150). -/
structure Settings where
  briskTimeout : Nat
  slowTimeout  : Nat
  quiet        : Nat
  ceiling      : Nat
  burst        : Nat
  deriving DecidableEq, Repr

/-- A repeat profile (R68); a limit of 0 means no limit. -/
structure Profile where
  delay    : Nat
  interval : Nat
  limit    : Nat
  deriving DecidableEq, Repr

/-- The service mode of a lane (R115). -/
inductive ServiceMode where
  | plain
  | held
  deriving DecidableEq, Repr

/-- A lane entry (R115); a service limit of 0 means none. -/
structure LaneEntry where
  priority : Nat
  masked   : Bool
  mode     : ServiceMode
  urgent   : Bool
  quota    : Nat
  limit    : Nat
  deriving DecidableEq, Repr

/-- A module entry of the module map (R19). -/
structure ModuleEntry where
  enabled : Bool
  base    : Nat
  count   : Nat
  deriving DecidableEq, Repr

/-- The notice mode of a key (R45). -/
inductive NoticeMode where
  | both
  | pressOnly
  | toggle
  deriving DecidableEq, Repr

/-- The echo mode of a key (R45). -/
inductive EchoMode where
  | follow
  | latch
  deriving DecidableEq, Repr

/-- The resolution of an encoder (R45). -/
inductive Resolution where
  | fine
  | half
  | coarse
  deriving DecidableEq, Repr

/-- The parameter part of a Key entry (R45). -/
structure KeyParams where
  debounceDown : Nat
  debounceUp   : Nat
  mode         : NoticeMode
  profile      : Option (Fin 8)
  echo         : Option (Fin 64)
  echoMode     : EchoMode
  deriving DecidableEq, Repr

/-- The parameter part of an Encoder entry (R45). -/
structure EncoderParams where
  resolution : Resolution
  invert     : Bool
  limit      : Nat
  threshold  : Nat
  factor     : Nat
  deriving DecidableEq, Repr

/-- The parameter part of a Level entry (R45). -/
structure LevelParams where
  deadband : Nat
  pace     : Nat
  low      : Nat
  high     : Nat
  zones    : Bool
  deriving DecidableEq, Repr

/-! ## Element contexts (spec/03 R50) -/

/-- The zone of a level element (R50). -/
inductive Zone where
  | low
  | mid
  | high
  deriving DecidableEq, Repr

/-- The context of a Key element (R50). `rawClosed` is the raw state, `closed` the accepted state. -/
structure KeyCtx where
  rawClosed   : Bool
  closed      : Bool
  settle      : Nat
  latched     : Bool
  bounce      : Nat
  timer       : Timer
  repeatDue   : Bool
  sent        : Nat
  echoBit     : Bool
  echoPending : Bool
  stale       : Bool
  deriving DecidableEq, Repr

/-- The context of an Encoder element (R50). -/
structure EncoderCtx where
  phase     : BitVec 2
  sub       : Int
  carry     : Int
  carryOwed : Bool
  skips     : Nat
  deriving DecidableEq, Repr

/-- The context of a Level element (R50). -/
structure LevelCtx where
  raw       : Nat
  lastGiven : Option Nat
  held      : Option Nat
  timer     : Timer
  zone      : Zone
  stale     : Bool
  deriving DecidableEq, Repr

/-- The class of an element entry with the entry's parameter part and the element context: the fields of the entry's
class and no others (R44, R50). -/
inductive Control where
  | ignore
  | key (p : KeyParams) (c : KeyCtx)
  | encoder (p : EncoderParams) (c : EncoderCtx)
  | level (p : LevelParams) (c : LevelCtx)
  | raw (last : Option Word)
  deriving DecidableEq, Repr

/-- An entry of the element table with its context (R44, R50). -/
structure Element where
  lane    : Fin 8
  control : Control
  deriving DecidableEq, Repr

/-- The entry of every index after a cold restart (R44): class Ignore on lane 1. It is what an index that the table
does not list reads as. -/
def Element.cold : Element := ⟨1, .ignore⟩

/-! ## Modules (spec/02 R20, R21) -/

/-- Module addresses 1..62, held as 0..61: `m` stands for the address `m + 1`. -/
abbrev ModuleIx := Fin 62

/-- The states of a module (R20). -/
inductive ModuleState where
  | unmapped
  | waiting
  | active
  | silent
  | draining
  deriving DecidableEq, Repr

/-- A sweep rate: the chain pace (R140) and the pace view of a module (R32). -/
inductive Pace where
  | brisk
  | slow
  deriving DecidableEq, Repr

/-- A report slot in use (R21). -/
structure Slot where
  element : Nat
  value   : Word
  deriving DecidableEq, Repr

/-- The open sweep of a module (R20). -/
structure OpenSweep where
  slots    : List Slot
  broken   : Bool
  received : Nat
  deriving DecidableEq, Repr

/-- The empty open sweep (R20). -/
def OpenSweep.empty : OpenSweep := ⟨[], false, 0⟩

/-- A capture mark (R160). -/
inductive Mark where
  | recording
  | withdrawn
  deriving DecidableEq, Repr

/-- A module address: its entry (R19), its context (R20) and its capture mark (R160). -/
structure Module where
  entry       : ModuleEntry
  state       : ModuleState
  lastApplied : Option Byte
  sweep       : OpenSweep
  emptyRun    : Nat
  paceView    : Pace
  watchdog    : Timer
  resyncOwed  : Bool
  rejected    : Nat
  gaps        : Nat
  duplicates  : Nat
  mark        : Mark
  deriving DecidableEq, Repr

/-! ## Notices and lanes (spec/06 R98, spec/07 R124) -/

/-- The kinds of notice (R98). -/
inductive NoticeKind where
  | press
  | release
  | repeat_
  | toggle
  | turn
  | level
  | zone
  | raw
  | restarted
  | moduleJoined
  | moduleLost
  | serviceOverdue
  | serviceFault
  | overflow
  deriving DecidableEq, Repr

/-- The flags of a notice (R98). -/
structure Flags where
  baseline : Bool := false
  resync   : Bool := false
  lost     : Bool := false
  removed  : Bool := false
  deriving DecidableEq, Repr

/-- A notice record (R98) and, for an element notice, the element index it was built for. `module` is the address, 0 for
a notice about no module. -/
structure Notice where
  kind    : NoticeKind
  lane    : Fin 8
  module  : Nat
  element : Nat
  value   : Int
  zone    : Option Zone
  flags   : Flags
  index   : Option Nat
  deriving DecidableEq, Repr

/-- A lane: its entry (R115), its FIFO of untaken notices (R100), its overflow counter (R113), its service timer and its
overdue mark (R124). -/
structure Lane where
  entry    : LaneEntry
  fifo     : List Notice
  overflow : Nat
  timer    : Timer
  overdue  : Bool
  deriving DecidableEq, Repr

/-! ## Requests and replies (spec/09 R145 to R147) -/

/-- A request as received (R145); `waited` records whether the queue already held a request on its arrival. -/
structure Request where
  tag    : Byte
  code   : Byte
  args   : List Byte
  waited : Bool
  deriving DecidableEq, Repr

/-- The reasons of a refusal of a request (R147). -/
inductive Reason where
  | badRequest
  | badArgument
  | moduleActive
  | overlap
  deriving DecidableEq, Repr

/-- The outcome of a request (R147): Done with the data of its code, or Refused with a reason. -/
inductive Answer where
  | done (data : List Byte)
  | refused (reason : Reason)
  deriving DecidableEq, Repr

/-- A reply (R147). -/
structure Reply where
  tag    : Byte
  code   : Byte
  answer : Answer
  deriving DecidableEq, Repr

/-- The condition of the request at the head of the request queue (R146): still to be executed, Flushing with the module
and the entry its flush holds (R37), or Awaiting Slot with its reply. -/
inductive HeadCondition where
  | ready
  | flushing (m : ModuleIx) (entry : ModuleEntry)
  | awaitingSlot (reply : Reply)
  deriving DecidableEq, Repr

/-- The causes of a restart (R159). -/
inductive Cause where
  | powerOn
  | coldRequest
  | warmRequest
  | linkBreak
  deriving DecidableEq, Repr

/-! ## The link (spec/01, spec/07 R122, spec/08 R133) -/

/-- A receive framer with the partial frame it holds (R5). -/
inductive Framer where
  | hunting
  | address (kind : Byte)
  | length (kind addr : Byte)
  | body (kind addr len : Byte) (got : List Byte)
  deriving DecidableEq, Repr

/-- The states of the break detector (R14). -/
inductive Detector where
  | clear
  | spacingSeen
  | broken
  deriving DecidableEq, Repr

/-- The frame in flight toward the console (R122). -/
inductive ConsoleFrame where
  | reply (r : Reply)
  | notice (n : Notice)
  | pass (f : Frame)
  deriving DecidableEq, Repr

/-- A frame of the outbound queue, forwarded from the console or generated (R133). -/
structure OutFrame where
  frame     : Frame
  forwarded : Bool
  deriving DecidableEq, Repr

/-! ## The capture ring (spec/10 R160) -/

/-- The outcomes handed to the capture ring (R162). -/
inductive SweepOutcome where
  | applied
  | gap
  | duplicate
  | broken
  | count
  | waiting
  | draining
  | joined
  deriving DecidableEq, Repr

/-- A capture entry (R160). -/
inductive CaptureEntry where
  | report (m : ModuleIx) (element : Byte) (value : Word)
  | sweep (m : ModuleIx) (number : Byte) (outcome : SweepOutcome)
  deriving DecidableEq, Repr

/-- The capture ring (R160): the entries from the read to the commit position, those from there to the write position,
the enable, the filter (none is all modules) and Capture Dropped Sweeps (R167). The capture marks stand with the
modules. -/
structure CaptureRing where
  readable    : List CaptureEntry
  uncommitted : List CaptureEntry
  enabled     : Bool
  filter      : Option ModuleIx
  dropped     : Nat
  deriving DecidableEq, Repr

/-- The counters of Read Counters that belong to no lane and not to the capture ring (R155). -/
structure Counters where
  surfaceErrors : Nat
  consoleErrors : Nat
  misaddressed  : Nat
  rangeErrors   : Nat
  discarded     : Nat
  passDrops     : Nat
  outboundDrops : Nat
  requestDrops  : Nat
  deriving DecidableEq, Repr

/-- The state of the concentrator and the queue of the commands that wait. -/
structure State where
  settings       : Settings
  profiles       : Vector Profile 8
  lanes          : Vector Lane 8
  modules        : Vector Module 62
  elements       : List (Nat × Element)
  surfaceFramer  : Framer
  consoleFramer  : Framer
  counters       : Counters
  pauseIn        : Bool
  consoleRx      : Line
  detector       : Detector
  powerReset     : Bool
  consoleTx      : Option ConsoleFrame
  burst          : Nat
  passQueue      : List Frame
  systemLost     : Nat
  stack          : List (Fin 8)
  outbound       : List OutFrame
  surfaceSending : Bool
  chainPace      : Pace
  paceOwed       : Bool
  requests       : List Request
  head           : HeadCondition
  replies        : List Reply
  resetCause     : Cause
  capture        : CaptureRing
  pending        : List Instr
  deriving DecidableEq, Repr

/-! ## Values after a cold restart -/

/-- The settings record after power-on and a Cold request (R150). -/
def Settings.cold : Settings := ⟨250, 3000, 40, 7, 8⟩

/-- A repeat profile after power-on and a Cold request (R68). -/
def Profile.cold : Profile := ⟨400, 80, 0⟩

/-- The entry of lane `l` after power-on and a Cold request (R115): the priority is the lane's own number. -/
def LaneEntry.cold (l : Fin 8) : LaneEntry := ⟨l.val, false, .plain, false, 16, 0⟩

/-- A lane with the given entry and nothing else (R114, R132). -/
def Lane.idle (e : LaneEntry) : Lane := ⟨e, [], 0, none, false⟩

/-- A module entry after power-on and a Cold request (R19). -/
def ModuleEntry.cold : ModuleEntry := ⟨false, 0, 1⟩

/-- A module after a restart that leaves it the given entry (R20, R160): Waiting if the entry is enabled. -/
def Module.idle (e : ModuleEntry) : Module :=
  { entry := e, state := if e.enabled then .waiting else .unmapped, lastApplied := none, sweep := .empty, emptyRun := 0,
    paceView := .brisk, watchdog := none, resyncOwed := false, rejected := 0, gaps := 0, duplicates := 0,
    mark := .recording }

/-- Every counter 0 (R11, R43, R113, R131, R143, R145). -/
def Counters.zero : Counters := ⟨0, 0, 0, 0, 0, 0, 0, 0⟩

/-- The capture ring after a restart that leaves the given filter (R160). -/
def CaptureRing.idle (filter : Option ModuleIx) : CaptureRing := ⟨[], [], false, filter, 0⟩

/-- A Restarted notice (R111). -/
def Notice.restarted (value : Int) : Notice :=
  ⟨.restarted, 0, 0, 0, value, none, {}, none⟩

/-- The machine in the middle of a power-on restart, the input already deasserted: every field at its value after a
cold restart (R157). The levels of pause-in and of the console receive line are inputs, for which the spec states no
value: DESIGN CHOICE, log 11. -/
def State.blank : State :=
  { settings := .cold, profiles := Vector.replicate 8 .cold, lanes := Vector.ofFn fun l => .idle (.cold l),
    modules := Vector.replicate 62 (.idle .cold), elements := [], surfaceFramer := .hunting, consoleFramer := .hunting,
    counters := .zero, pauseIn := false, consoleRx := .marking, detector := .clear, powerReset := false,
    consoleTx := none, burst := 0, passQueue := [], systemLost := 0, stack := [], outbound := [],
    surfaceSending := false, chainPace := .brisk, paceOwed := false, requests := [], head := .ready, replies := [],
    resetCause := .powerOn, capture := .idle none, pending := [] }

/-- The machine right after reset: a power-on restart has completed (R158), so the reset cause is Power-on and the
Restarted notice, queued on lane 0 and selected as the last step of the completion, is in flight toward the console. -/
def State.reset : State :=
  { State.blank with consoleTx := some (.notice (.restarted 1)) }

end Sys2Proof.Machine
end

