-- ==== Sys2Proof/Machine/Flags.lean ====
section
/-! DEFINITION. Counters and counts: how each is incremented and cleared (spec/01 R11, spec/02 R43, spec/06 R113,
spec/07 R131, spec/08 R143, spec/09 R145 R155). -/

namespace Sys2Proof.Machine

/-- A count that stays at `top` once it reaches it (00_scope.md, Ranges). -/
def bump (top n : Nat) : Nat := if n < top then n + 1 else n

/-- Surface Frame Errors or Console Frame Errors is incremented (R6). -/
def State.countFrameError (p : Port) (s : State) : State :=
  match p with
  | .surface =>
    { s with counters := { s.counters with surfaceErrors := bump Config.counterTop s.counters.surfaceErrors } }
  | .console =>
    { s with counters := { s.counters with consoleErrors := bump Config.counterTop s.counters.consoleErrors } }

/-- Misaddressed is incremented (R11). -/
def State.countMisaddressed (s : State) : State :=
  { s with counters := { s.counters with misaddressed := bump Config.counterTop s.counters.misaddressed } }

/-- Range Errors is incremented (R43). -/
def State.countRangeError (s : State) : State :=
  { s with counters := { s.counters with rangeErrors := bump Config.counterTop s.counters.rangeErrors } }

/-- Discarded Notices is incremented (R113). -/
def State.countDiscarded (s : State) : State :=
  { s with counters := { s.counters with discarded := bump Config.counterTop s.counters.discarded } }

/-- Pass-through Drops is incremented (R131). -/
def State.countPassDrop (s : State) : State :=
  { s with counters := { s.counters with passDrops := bump Config.counterTop s.counters.passDrops } }

/-- Outbound Drops is incremented (R143). -/
def State.countOutboundDrop (s : State) : State :=
  { s with counters := { s.counters with outboundDrops := bump Config.counterTop s.counters.outboundDrops } }

/-- Request Drops is incremented (R145). -/
def State.countRequestDrop (s : State) : State :=
  { s with counters := { s.counters with requestDrops := bump Config.counterTop s.counters.requestDrops } }

/-- The system-lost count is incremented (R112). -/
def State.countSystemLost (s : State) : State :=
  { s with systemLost := bump Config.countTop s.systemLost }

/-- A counter that is raised by `n` and stays at `top` (R163 counts once for each dropped sweep). -/
def bumpBy (top n k : Nat) : Nat := if n + k < top then n + k else top

end Sys2Proof.Machine
end

