-- ==== Sys2Proof/Machine/Ops.lean ====
section
/-! DEFINITION. The named operations over the state: the sparse element table, lanes, modules, elements and their
binding (spec/02 R19, spec/03 R44 R46), the fill of the queues, and what is held by a link break or the reset input. -/

namespace Sys2Proof.Machine

/-! ## Sparse tables

A table is a list of (index, value) with strictly rising indices that lists no value equal to `d`; an index it does not
list reads as `d` (log 20). -/

/-- The value at index `i`. -/
def Table.get {α : Type} (d : α) : List (Nat × α) → Nat → α
  | [], _ => d
  | (j, v) :: t, i => if j = i then v else Table.get d t i

/-- The table without index `i`. -/
def Table.erase {α : Type} (i : Nat) : List (Nat × α) → List (Nat × α)
  | [] => []
  | (j, v) :: t => if j = i then Table.erase i t else (j, v) :: Table.erase i t

/-- The table with `v` put in front of the first index above `i`. -/
def Table.insert {α : Type} (i : Nat) (v : α) : List (Nat × α) → List (Nat × α)
  | [] => [(i, v)]
  | (j, w) :: t => if i < j then (i, v) :: (j, w) :: t else (j, w) :: Table.insert i v t

/-- The table with index `i` set to `v`; setting what an unlisted index reads as removes the entry. -/
def Table.put {α : Type} [DecidableEq α] (d : α) (i : Nat) (v : α) (t : List (Nat × α)) : List (Nat × α) :=
  if v = d then Table.erase i t else Table.insert i v (Table.erase i t)

/-- Every index listed lies above `i`. -/
def Table.above {α : Type} (i : Nat) : List (Nat × α) → Bool
  | [] => true
  | (j, _) :: t => i < j && Table.above i t

/-- The canonical form: strictly rising indices, no value equal to `d`. -/
def Table.wf {α : Type} [DecidableEq α] (d : α) : List (Nat × α) → Bool
  | [] => true
  | (i, v) :: t => v ≠ d && Table.above i t && Table.wf d t

/-! ## Fixed tables -/

/-- Every entry of a fixed table changed by `f`. -/
def mapAll {α β : Type} {n : Nat} (f : α → β) (v : Vector α n) : Vector β n := Vector.ofFn fun i => f v[i]

/-- The lanes 0..7 in order. -/
def allLanes : List (Fin 8) := List.finRange 8

/-- The modules in address order. -/
def allModules : List ModuleIx := List.finRange 62

/-- The address of a module (R19): 1..62. -/
def ModuleIx.addr (m : ModuleIx) : Nat := m.val + 1

/-- The address of a module as a frame carries it. -/
def ModuleIx.bits (m : ModuleIx) : BitVec 6 := BitVec.ofNat 6 (m.val + 1)

/-- The module a number names as an address (R151): none for 0 and above 62. -/
def moduleOfNat (a : Nat) : Option ModuleIx := if h : 1 ≤ a ∧ a ≤ 62 then some ⟨a - 1, by omega⟩ else none

/-- The module an address field names: none for 0 and 63. -/
def moduleOf (a : BitVec 6) : Option ModuleIx := moduleOfNat a.toNat

/-- The lane a byte names (R153): none above 7. -/
def laneOf (n : Nat) : Option (Fin 8) := if h : n < 8 then some ⟨n, h⟩ else none

/-! ## Accessors -/

/-- The lane `l`. -/
def State.lane (s : State) (l : Fin 8) : Lane := s.lanes[l]

/-- `s` with lane `l` replaced. -/
def State.setLane (s : State) (l : Fin 8) (x : Lane) : State := { s with lanes := s.lanes.set l x }

/-- The module `m`. -/
def State.module (s : State) (m : ModuleIx) : Module := s.modules[m]

/-- `s` with module `m` replaced. -/
def State.setModule (s : State) (m : ModuleIx) (x : Module) : State := { s with modules := s.modules.set m x }

/-- The element at index `i`. -/
def State.element (s : State) (i : Nat) : Element := Table.get .cold s.elements i

/-- `s` with the element at index `i` replaced. -/
def State.setElement (s : State) (i : Nat) (e : Element) : State :=
  { s with elements := Table.put .cold i e s.elements }

/-- `s` with the class part of the element at index `i` replaced. -/
def State.setControl (s : State) (i : Nat) (c : Control) : State := s.setElement i { s.element i with control := c }

/-- `s` with the context of the key at index `i` changed; nothing happens at an index of another class. -/
def State.updKey (s : State) (i : Nat) (f : KeyCtx → KeyCtx) : State :=
  match (s.element i).control with
  | .key p c => s.setControl i (.key p (f c))
  | _ => s

/-- `s` with the context of the encoder at index `i` changed. -/
def State.updEncoder (s : State) (i : Nat) (f : EncoderCtx → EncoderCtx) : State :=
  match (s.element i).control with
  | .encoder p c => s.setControl i (.encoder p (f c))
  | _ => s

/-- `s` with the context of the level element at index `i` changed. -/
def State.updLevel (s : State) (i : Nat) (f : LevelCtx → LevelCtx) : State :=
  match (s.element i).control with
  | .level p c => s.setControl i (.level p (f c))
  | _ => s

/-- `s` with every element changed in its class part; for changes that keep the class and the parameter part. -/
def State.mapControls (s : State) (f : Nat → Control → Control) : State :=
  { s with elements := s.elements.map fun p => (p.1, { p.2 with control := f p.1 p.2.control }) }

/-! ## Idle contexts (R50) -/

/-- The idle Key context. -/
def KeyCtx.idle : KeyCtx := ⟨false, false, 0, false, 0, none, false, 0, false, false, false⟩
/-- The idle Encoder context. -/
def EncoderCtx.idle : EncoderCtx := ⟨0, 0, 0, false, 0⟩
/-- The idle Level context. -/
def LevelCtx.idle : LevelCtx := ⟨0, none, none, none, .mid, false⟩

/-- The same entry with the idle context of its class. -/
def Control.toIdle : Control → Control
  | .ignore => .ignore
  | .key p _ => .key p .idle
  | .encoder p _ => .encoder p .idle
  | .level p _ => .level p .idle
  | .raw _ => .raw none

/-- The derived states of a key (R59). -/
inductive KeyPhase where
  | opened
  | closing
  | closed
  | opening
  deriving DecidableEq, Repr

/-- The derived state of a key from its accepted and raw state (R59). -/
def KeyCtx.phase (c : KeyCtx) : KeyPhase :=
  if c.closed then (if c.rawClosed then .closed else .opening) else (if c.rawClosed then .closing else .opened)

/-! ## Binding (R19, R46) -/

/-- The entry binds index `i`. -/
def ModuleEntry.binds (e : ModuleEntry) (i : Nat) : Bool := e.enabled && (e.base ≤ i && i < e.base + e.count)

/-- The element indices of the entry's range, in order. -/
def ModuleEntry.range (e : ModuleEntry) : List Nat := (List.range e.count).map (e.base + ·)

/-- The module an element index is bound to, if any. Enabled ranges do not overlap (R19), so there is at most one. -/
def State.bound (s : State) (i : Nat) : Option ModuleIx := allModules.find? fun m => (s.module m).entry.binds i

/-- The element indices bound to a module, in order: none for a disabled entry. -/
def State.boundTo (s : State) (m : ModuleIx) : List Nat :=
  if (s.module m).entry.enabled then (s.module m).entry.range else []

/-- The element number of index `i` within module `m` (R46). -/
def State.numberIn (s : State) (m : ModuleIx) (i : Nat) : Nat := i - (s.module m).entry.base

/-! ## Queues -/

/-- The report slots in use (R21). -/
def State.slotsUsed (s : State) : Nat := (allModules.map fun m => (s.module m).sweep.slots.length).sum

/-- The notices held in the lanes. -/
def State.queued (s : State) : Nat := (allLanes.map fun l => (s.lane l).fifo.length).sum

/-- The notice whose frame is being sent (R99): 0 or 1. -/
def State.noticeInFlight (s : State) : Nat :=
  match s.consoleTx with
  | some (.notice _) => 1
  | _ => 0

/-- The free slots of the notice pool (R99). -/
def State.freeSlots (s : State) : Nat := Config.poolSlots - (s.queued + s.noticeInFlight)

/-- A lane has room for a notice (R101): its count is below its quota and the pool has a free slot. -/
def State.room (s : State) (l : Fin 8) : Bool :=
  (s.lane l).fifo.length < (s.lane l).entry.quota && 0 < s.freeSlots

/-- The free count of the outbound queue (R133). -/
def State.outboundFree (s : State) : Nat := Config.outboundEntries - s.outbound.length

/-- The forwarded count of the outbound queue (R133). -/
def State.forwardedCount (s : State) : Nat := (s.outbound.filter (·.forwarded)).length

/-- The pause-out line (R13): asserted while fewer than 8 entries of the outbound queue are free. -/
def State.pauseOut (s : State) : Bool := s.outboundFree < Config.pauseOutFree

/-- Bulk hold (R129): some lane in the in-service stack is urgent in its current entry. -/
def State.bulkHold (s : State) : Bool := s.stack.any fun l => (s.lane l).entry.urgent

/-- A link break (R15) or the power-on reset input (R158) holds the block: both receive lines are ignored and nothing
is sent. -/
def State.holding (s : State) : Bool := s.powerReset || s.detector == .broken

/-- The resting level of the surface transmit line: spacing while a link break persists (R2, R15), and marking otherwise,
under the reset input too (R158). -/
def State.surfaceTxRest (s : State) : Line :=
  if s.detector = .broken ∧ s.powerReset = false then .spacing else .marking

/-- The resting level of the console transmit line: marking always (R2), in a link break (R15) and under the reset input
(R158) as between frames. -/
def State.consoleTxRest (_ : State) : Line := .marking

end Sys2Proof.Machine
end

