-- ==== Sys2Proof/Machine/Operands.lean ====
section
/-! DEFINITION. The layouts: frames, the check, characters as sent, notices, replies, request arguments and records
(spec/01 R2, R4, R17, R18, Frame and record layouts; spec/03 R45). -/

namespace Sys2Proof.Machine

/-! ## Bytes -/

/-- The high byte of a 16-bit quantity (R17). -/
def hiByte (w : Word) : Byte := (w >>> 8).setWidth 8
/-- The low byte of a 16-bit quantity (R17). -/
def loByte (w : Word) : Byte := w.setWidth 8
/-- A 16-bit quantity from its two bytes, high byte first (R17). -/
def wordOf (hi lo : Byte) : Word := hi ++ lo
/-- The two bytes of a 16-bit quantity, high byte first (R17). -/
def wordBytes (w : Word) : List Byte := [hiByte w, loByte w]
/-- The two bytes of a number below 65536. -/
def natBytes (n : Nat) : List Byte := wordBytes (BitVec.ofNat 16 n)
/-- A yes/no field as sent (R17): 1 for yes, 0 for no. -/
def flagByte (b : Bool) : Byte := if b then 1 else 0
/-- A yes/no field as read (R17): any nonzero byte is yes. -/
def isYes (b : Byte) : Bool := b != 0

/-! ## The check (R4) -/

/-- One bit into the check register. -/
def checkBit (reg : BitVec 16) (b : Bool) : BitVec 16 :=
  if (b ^^ reg.msb) then (reg <<< 1) ^^^ 0x1021 else reg <<< 1

/-- One byte into the check register, most significant bit first. -/
def checkByte (reg : BitVec 16) (b : Byte) : BitVec 16 :=
  [7, 6, 5, 4, 3, 2, 1, 0].foldl (fun r i => checkBit r (b.getLsbD i)) reg

/-- The check over a list of bytes (R4). -/
def check (bytes : List Byte) : BitVec 16 := bytes.foldl checkByte 0xFFFF

/-! ## Frames as sent (R2, R3, The frame) -/

/-- The kind byte: the upper four bits are 0. -/
def kindByte (f : Frame) : Byte := f.kind.setWidth 8
/-- The address byte: the upper two bits are 0. -/
def addrByte (f : Frame) : Byte := f.addr.setWidth 8
/-- The length byte. -/
def lengthByte (f : Frame) : Byte := BitVec.ofNat 8 f.payload.length
/-- The bytes the check is taken over. -/
def checkedBytes (f : Frame) : List Byte := kindByte f :: addrByte f :: lengthByte f :: f.payload
/-- The bytes of a frame with its check, high byte first. -/
def frameBytes (f : Frame) : List Byte := checkedBytes f ++ wordBytes (check (checkedBytes f))
/-- The characters of a frame as its receiver sees them: the frame-start mark stands in the first only (R2). -/
def frameCharacters (f : Frame) : List LineEvent :=
  match frameBytes f with
  | [] => []
  | b :: bs => .start b :: bs.map .continuation
/-- What a transmit line sends in one bit time (R2): the start bit, a data bit or the stop bit. -/
inductive SentBit where
  | start
  | data (x : Bool)
  | stop
  deriving DecidableEq, Repr
/-- The eleven bits of a character in the order sent (R2): one start bit, the eight bits of the byte, least significant
first, the frame-start mark, one stop bit. -/
def characterBits (b : Byte) (mark : Bool) : List SentBit :=
  .start :: (([0, 1, 2, 3, 4, 5, 6, 7].map fun i => .data (b.getLsbD i)) ++ [.data mark, .stop])
/-- The bits of a frame in the order sent (R2): the mark is 1 in the first character and 0 in every other. -/
def frameBits (f : Frame) : List SentBit :=
  match frameBytes f with
  | [] => []
  | b :: bs => characterBits b true ++ (bs.map fun x => characterBits x false).flatten

/-! ## Notices (The notice record) -/

/-- The code of a notice kind. -/
def NoticeKind.code : NoticeKind → Byte
  | .press => 1
  | .release => 2
  | .repeat_ => 3
  | .toggle => 4
  | .turn => 5
  | .level => 6
  | .zone => 7
  | .raw => 8
  | .restarted => 16
  | .moduleJoined => 17
  | .moduleLost => 18
  | .serviceOverdue => 19
  | .serviceFault => 20
  | .overflow => 21

/-- The zone byte: 0 for the kinds without a zone. -/
def zoneByte : Option Zone → Byte
  | none => 0
  | some .low => 1
  | some .mid => 2
  | some .high => 3

/-- The flags byte: bit 0 Baseline, bit 1 Resync, bit 2 Lost, bit 3 Removed. -/
def Flags.byte (f : Flags) : Byte :=
  (if f.baseline then 1 else 0) ||| (if f.resync then 2 else 0) ||| (if f.lost then 4 else 0) |||
    (if f.removed then 8 else 0)

/-- The eight bytes of a notice record; the value of a Turn is in two's complement (R17). -/
def Notice.bytes (n : Notice) : List Byte :=
  [n.kind.code, BitVec.ofNat 8 n.lane.val, BitVec.ofNat 8 n.module, BitVec.ofNat 8 n.element] ++
    wordBytes (BitVec.ofInt 16 n.value) ++ [zoneByte n.zone, n.flags.byte]

/-- The cause as a Restarted notice and Read Status carry it. -/
def Cause.code : Cause → Nat
  | .powerOn => 1
  | .coldRequest => 2
  | .warmRequest => 3
  | .linkBreak => 4

/-! ## Replies (Request and reply headers) -/

/-- The code of a reason. -/
def Reason.code : Reason → Byte
  | .badRequest => 1
  | .badArgument => 2
  | .moduleActive => 3
  | .overlap => 4

/-- The payload of a Reply frame. -/
def Reply.bytes (r : Reply) : List Byte :=
  match r.answer with
  | .done data => r.tag :: r.code :: 0 :: 0 :: data
  | .refused reason => [r.tag, r.code, 1, reason.code]

/-- The frame the console serializer sends: Notice is kind 3, Reply kind 4, both of address 63; a pass-through frame is
unchanged (R3). -/
def ConsoleFrame.frame : ConsoleFrame → Frame
  | .reply r => ⟨4, 63, r.bytes⟩
  | .notice n => ⟨3, 63, n.bytes⟩
  | .pass f => f

/-! ## Generated frames (R135, Outbound payloads to modules) -/

/-- The pace byte. -/
def Pace.byte : Pace → Byte
  | .brisk => 0
  | .slow => 1

/-- A Pace frame to address 0. -/
def paceFrame (p : Pace) : Frame := ⟨6, 0, [p.byte]⟩
/-- A Resync Request frame to a module. -/
def resyncFrame (m : ModuleIx) : Frame := ⟨7, m.bits, []⟩
/-- An Indicator frame to a module, mode 1 (on) or 0 (off). -/
def indicatorFrame (m : ModuleIx) (number : Fin 64) (on : Bool) : Frame :=
  ⟨5, m.bits, [BitVec.ofNat 8 number.val, flagByte on]⟩

/-! ## Records of the requests -/

/-- The settings record. -/
def Settings.bytes (x : Settings) : List Byte :=
  natBytes x.briskTimeout ++ natBytes x.slowTimeout ++
    [BitVec.ofNat 8 x.quiet, BitVec.ofNat 8 x.ceiling, BitVec.ofNat 8 x.burst]

/-- The settings a Write Settings carries, if every field is in range (R150). -/
def settingsOf (brisk slow : Word) (quiet ceiling burst : Byte) : Option Settings :=
  if 10 ≤ brisk.toNat ∧ brisk.toNat ≤ 10000 ∧ 100 ≤ slow.toNat ∧ slow.toNat ≤ 60000 ∧ ceiling.toNat ≤ 7 ∧
      1 ≤ burst.toNat ∧ burst.toNat ≤ 32 then
    some ⟨brisk.toNat, slow.toNat, quiet.toNat, ceiling.toNat, burst.toNat⟩
  else none

/-- The code of a module state. -/
def ModuleState.code : ModuleState → Byte
  | .unmapped => 0
  | .waiting => 1
  | .active => 2
  | .silent => 3
  | .draining => 4

/-- The data of Read Module. -/
def Module.bytes (x : Module) : List Byte :=
  [flagByte x.entry.enabled] ++ natBytes x.entry.base ++
    [BitVec.ofNat 8 x.entry.count, x.state.code, flagByte x.lastApplied.isSome, x.lastApplied.getD 0] ++
    natBytes x.rejected ++ natBytes x.gaps ++ natBytes x.duplicates ++ [x.paceView.byte]

/-- The entry a Write Module carries, if its fields pass the checks of R19 and R151. -/
def moduleEntryOf (enabled : Byte) (base : Word) (count : Byte) : Option ModuleEntry :=
  if base.toNat ≤ 1023 ∧ 1 ≤ count.toNat ∧ count.toNat ≤ 64 ∧ base.toNat + count.toNat ≤ 1024 then
    some ⟨isYes enabled, base.toNat, count.toNat⟩
  else none

/-- The lane record. -/
def LaneEntry.bytes (x : LaneEntry) : List Byte :=
  [BitVec.ofNat 8 x.priority, flagByte x.masked, (match x.mode with | .plain => 0 | .held => 1), flagByte x.urgent,
    BitVec.ofNat 8 x.quota] ++ natBytes x.limit

/-- The entry a Write Lane carries, if its fields are in range (R153). -/
def laneEntryOf (priority masked mode urgent quota : Byte) (limit : Word) : Option LaneEntry :=
  if priority.toNat ≤ 7 ∧ mode.toNat ≤ 1 ∧ 1 ≤ quota.toNat ∧ quota.toNat ≤ 128 then
    some ⟨priority.toNat, isYes masked, if mode = 0 then .plain else .held, isYes urgent, quota.toNat, limit.toNat⟩
  else none

/-- The profile record. -/
def Profile.bytes (x : Profile) : List Byte :=
  natBytes x.delay ++ natBytes x.interval ++ [BitVec.ofNat 8 x.limit]

/-- The profile a Write Profile carries, if its fields are in range (R154). -/
def profileOf (delay interval : Word) (limit : Byte) : Option Profile :=
  if 1 ≤ delay.toNat ∧ 1 ≤ interval.toNat then some ⟨delay.toNat, interval.toNat, limit.toNat⟩ else none

/-! ## Element records (Element records, R45, R52, R58) -/

/-- The class byte. -/
def Control.classByte : Control → Byte
  | .ignore => 0
  | .key _ _ => 1
  | .encoder _ _ => 2
  | .level _ _ => 3
  | .raw _ => 4

/-- The parameter part as bytes. -/
def Control.paramBytes : Control → List Byte
  | .ignore => []
  | .raw _ => []
  | .key p _ =>
    [BitVec.ofNat 8 p.debounceDown, BitVec.ofNat 8 p.debounceUp,
      (match p.mode with | .both => 0 | .pressOnly => 1 | .toggle => 2),
      (match p.profile with | none => 255 | some x => BitVec.ofNat 8 x.val),
      (match p.echo with | none => 255 | some x => BitVec.ofNat 8 x.val),
      (match p.echoMode with | .follow => 0 | .latch => 1)]
  | .encoder p _ =>
    [(match p.resolution with | .fine => 0 | .half => 1 | .coarse => 2), flagByte p.invert, BitVec.ofNat 8 p.limit,
      BitVec.ofNat 8 p.threshold, BitVec.ofNat 8 p.factor]
  | .level p _ =>
    [BitVec.ofNat 8 p.deadband] ++ natBytes p.pace ++ natBytes p.low ++ natBytes p.high ++ [flagByte p.zones]

/-- The context summary of Read Element (R58). -/
def Control.summary : Control → List Byte
  | .ignore => [0, 0, 0, 0, 0]
  | .raw _ => [0, 0, 0, 0, 0]
  | .key _ c => [flagByte c.closed, flagByte c.latched, BitVec.ofNat 8 c.bounce, 0, flagByte c.stale]
  | .encoder _ c => [0, 0, 0, BitVec.ofNat 8 c.skips, flagByte c.carryOwed]
  | .level _ c => [0, 0, 0, 0, flagByte c.stale]

/-- The data of Read Element: the summary, the header, the parameter part. -/
def Element.bytes (i : Nat) (e : Element) : List Byte :=
  e.control.summary ++ natBytes i ++ [e.control.classByte, BitVec.ofNat 8 e.lane.val] ++ e.control.paramBytes

/-- The length of the parameter part of a class (R18): none above class 4. -/
def paramLength (cls : Nat) : Option Nat :=
  match cls with
  | 0 => some 0
  | 1 => some 6
  | 2 => some 5
  | 3 => some 8
  | 4 => some 0
  | _ => none

/-- A byte that names one of `n` things, or none with 255 (R52): `none` for any other value. -/
def namedOrNone (n : Nat) (b : Byte) : Option (Option (Fin n)) :=
  if h : b.toNat < n then some (some ⟨b.toNat, h⟩) else if b = 255 then some none else none

/-- A notice mode byte (R52). -/
def noticeModeOf (b : Byte) : Option NoticeMode :=
  match b.toNat with
  | 0 => some .both
  | 1 => some .pressOnly
  | 2 => some .toggle
  | _ => none

/-- An echo mode byte (R52). -/
def echoModeOf (b : Byte) : Option EchoMode :=
  match b.toNat with
  | 0 => some .follow
  | 1 => some .latch
  | _ => none

/-- A resolution byte (R52). -/
def resolutionOf (b : Byte) : Option Resolution :=
  match b.toNat with
  | 0 => some .fine
  | 1 => some .half
  | 2 => some .coarse
  | _ => none

/-- The parameter part of a Key entry, if every field is in range (R45, R52). -/
def keyParamsOf (down up mode profile echo echoMode : Byte) : Option KeyParams :=
  match noticeModeOf mode, namedOrNone 8 profile, namedOrNone 64 echo, echoModeOf echoMode with
  | some md, some pr, some ec, some em =>
    if down.toNat ≤ 15 ∧ up.toNat ≤ 15 then some ⟨down.toNat, up.toNat, md, pr, ec, em⟩ else none
  | _, _, _, _ => none

/-- The parameter part of an Encoder entry, if every field is in range (R45, R52). -/
def encoderParamsOf (resolution invert limit threshold factor : Byte) : Option EncoderParams :=
  match resolutionOf resolution with
  | some r =>
    if 1 ≤ limit.toNat ∧ limit.toNat ≤ 127 ∧ threshold.toNat ≤ 4 ∧ 2 ≤ factor.toNat ∧ factor.toNat ≤ 8 then
      some ⟨r, isYes invert, limit.toNat, threshold.toNat, factor.toNat⟩
    else none
  | none => none

/-- The parameter part of a Level entry, if every field is in range (R45, R52). -/
def levelParamsOf (deadband : Byte) (pace low high : Word) (zones : Byte) : Option LevelParams :=
  if pace.toNat ≤ 1000 ∧ low.toNat ≤ 1023 ∧ high.toNat ≤ 1023 ∧ low.toNat ≤ high.toNat then
    some ⟨deadband.toNat, pace.toNat, low.toNat, high.toNat, isYes zones⟩
  else none

/-- The entry a class and its parameter part give, with an idle context, if every field is in range. -/
def controlOf (cls : Nat) (ps : List Byte) : Option Control :=
  match cls, ps with
  | 0, [] => some .ignore
  | 1, [down, up, mode, profile, echo, echoMode] =>
    (keyParamsOf down up mode profile echo echoMode).map fun p => .key p .idle
  | 2, [resolution, invert, limit, threshold, factor] =>
    (encoderParamsOf resolution invert limit threshold factor).map fun p => .encoder p .idle
  | 3, [deadband, p1, p0, l1, l0, h1, h0, zones] =>
    (levelParamsOf deadband (wordOf p1 p0) (wordOf l1 l0) (wordOf h1 h0) zones).map fun p => .level p .idle
  | 4, [] => some (.raw none)
  | _, _ => none

/-! ## Capture entries (Counter, restart and capture records) -/

/-- The code of a sweep outcome. -/
def SweepOutcome.code : SweepOutcome → Byte
  | .applied => 0
  | .gap => 1
  | .duplicate => 2
  | .broken => 3
  | .count => 4
  | .waiting => 5
  | .draining => 6
  | .joined => 7

/-- The five bytes of a capture entry. -/
def CaptureEntry.bytes : CaptureEntry → List Byte
  | .report m e v => [0, BitVec.ofNat 8 m.addr, e] ++ wordBytes v
  | .sweep m n o => [1, BitVec.ofNat 8 m.addr, n, o.code, 0]

end Sys2Proof.Machine
end

