-- ==== Sys2Proof/Machine/Notices.lean ====
section
/-! DEFINITION. The notice queue: enqueue and its failure, coalescing, the service pass and system notices
(spec/06, R98 to R114). -/

namespace Sys2Proof.Machine

/-! ## Enqueue (R101, R102) -/

/-- The notice joins the back of its lane (R101). -/
def State.pushNotice (n : Notice) (s : State) : State :=
  s.setLane n.lane { s.lane n.lane with fifo := (s.lane n.lane).fifo ++ [n] }

/-- The overflow counter of a lane is incremented (R113). -/
def State.countOverflow (l : Fin 8) (s : State) : State :=
  s.setLane l { s.lane l with overflow := bump Config.counterTop (s.lane l).overflow }

/-- A key's or level element's stale flag is set (R102). -/
def State.setStale (i : Nat) (s : State) : State :=
  match (s.element i).control with
  | .key p c => s.setControl i (.key p { c with stale := true })
  | .level p c => s.setControl i (.level p { c with stale := true })
  | _ => s

/-- The notice mode of the key at index `i`; none for another class. -/
def State.keyMode (i : Nat) (s : State) : Option NoticeMode :=
  match (s.element i).control with
  | .key p _ => some p.mode
  | _ => none

/-- What is kept of a notice whose enqueue failed (R102). A Turn's failure is R104's own. -/
def noticeLost (n : Notice) (s : State) : State :=
  match n.kind with
  | .press | .release =>
    match n.index with
    | some i => if s.keyMode i = some .both then s.setStale i else s.countDiscarded
    | none => s
  | .toggle | .level | .zone =>
    match n.index with
    | some i => s.setStale i
    | none => s
  | .repeat_ | .raw => s.countDiscarded
  | .turn | .overflow => s
  | .restarted | .moduleJoined | .moduleLost | .serviceOverdue | .serviceFault => s.countSystemLost

/-- A notice is handed to the notice queue (R101, R102). -/
def notify (n : Notice) (s : State) : State :=
  if s.room n.lane then s.pushNotice n else noticeLost n (s.countOverflow n.lane)

/-! ## Notices of elements and of the system -/

/-- The notice an element gives, from its binding and entry as they stand (R65, R84, R98); none if the index is bound to
no module. -/
def State.elementNotice (s : State) (i : Nat) (kind : NoticeKind) (value : Int) (zone : Option Zone) (flags : Flags) :
    Option Notice :=
  match s.bound i with
  | some m => some ⟨kind, (s.element i).lane, m.addr, s.numberIn m i, value, zone, flags, some i⟩
  | none => none

/-- An element gives a notice. -/
def giveNotice (i : Nat) (kind : NoticeKind) (value : Int) (zone : Option Zone) (flags : Flags) (s : State) : State :=
  match s.elementNotice i kind value zone flags with
  | some n => notify n s
  | none => s

/-- A system notice, on lane 0 (R111). -/
def systemNotice (kind : NoticeKind) (module element : Nat) (value : Int) : Notice :=
  ⟨kind, 0, module, element, value, none, {}, none⟩

/-! ## Untaken notices (R106) -/

/-- The notice is one of the given kind for index `i` under the element's present binding (R106). -/
def State.isFor (s : State) (i : Nat) (kind : NoticeKind) (n : Notice) : Bool :=
  n.index == some i && n.kind == kind &&
    match s.bound i with
    | some m => n.module == m.addr && n.element == s.numberIn m i
    | none => false

/-- The first lane, in lane order, that holds an untaken notice with the property. -/
def State.laneWith (s : State) (p : Notice → Bool) : Option (Fin 8) := allLanes.find? fun l => (s.lane l).fifo.any p

/-- The untaken notice with the property, if there is one. -/
def State.findUntaken (s : State) (p : Notice → Bool) : Option Notice :=
  match s.laneWith p with
  | some l => (s.lane l).fifo.find? p
  | none => none

/-- Some untaken notice has the property. -/
def State.hasUntaken (s : State) (p : Notice → Bool) : Bool := (s.laneWith p).isSome

/-- The first notice of a list with the property, changed where it stands. -/
def changeFirst (p : Notice → Bool) (f : Notice → Notice) : List Notice → List Notice
  | [] => []
  | n :: t => if p n then f n :: t else n :: changeFirst p f t

/-- The untaken notice with the property is changed where it stands (R100). -/
def amend (p : Notice → Bool) (f : Notice → Notice) (s : State) : State :=
  match s.laneWith p with
  | some l => s.setLane l { s.lane l with fifo := changeFirst p f (s.lane l).fifo }
  | none => s

/-! ## Turns (R104) -/

/-- `x` held at the ends of -b..+b. -/
def clampTo (b x : Int) : Int := max (-b) (min b x)

/-- `x` lies within -b..+b. -/
def within (b x : Int) : Bool := -b ≤ x && x ≤ b

/-- The carry takes `r` and a Turn is owed for it (R104, R105). -/
def oweCarry (i : Nat) (r : Int) (s : State) : State := s.updEncoder i fun c => { c with carry := r, carryOwed := true }

/-- A turn of `d` is handed to the notice queue for the encoder at index `i` (R104). -/
def placeTurn (i : Nat) (d : Int) (s : State) : State :=
  match (s.element i).control with
  | .encoder p c =>
    if c.carryOwed then
      s.updEncoder i fun c => { c with carry := clampTo Config.carryTop (c.carry + d) }
    else
      match s.findUntaken (s.isFor i .turn) with
      | some q =>
        if within p.limit (q.value + d) then
          amend (s.isFor i .turn) (fun n => { n with value := q.value + d }) s
        else if within p.limit q.value then
          let v := clampTo p.limit (q.value + d)
          oweCarry i (q.value + d - v) (amend (s.isFor i .turn) (fun n => { n with value := v }) s)
        else oweCarry i d s
      | none =>
        match s.elementNotice i .turn (clampTo p.limit d) none {} with
        | some n =>
          if s.room n.lane then
            if within p.limit d then s.pushNotice n else oweCarry i (d - clampTo p.limit d) (s.pushNotice n)
          else oweCarry i d (s.countOverflow n.lane)
        | none => s
  | _ => s

/-! ## The service pass (R108 to R110) -/

/-- The kind of notice that blocks the service of an owed element (R109). -/
def blockingKind (c : Control) (n : NoticeKind) : Bool :=
  match c with
  | .key p _ =>
    match p.mode with
    | .both => n == .press || n == .release
    | .toggle => n == .toggle
    | .pressOnly => false
  | .encoder _ _ => n == .turn
  | .level _ _ => n == .level
  | .raw _ => false
  | .ignore => false

/-- The element is owed a notice (R109): a stale key or level element, or an encoder with its carry-owed flag set. -/
def Control.isOwed : Control → Bool
  | .key _ c => c.stale
  | .level _ c => c.stale
  | .encoder _ c => c.carryOwed
  | .raw _ => false
  | .ignore => false

/-- An untaken notice of the kind the element's service would give waits (R109). -/
def State.serviceBlocked (s : State) (i : Nat) : Bool :=
  [NoticeKind.press, .release, .toggle, .turn, .level].any fun k =>
    blockingKind (s.element i).control k && s.hasUntaken (s.isFor i k)

/-- The flags of a key's service notice (R110): Removed while its module is Draining, Resync otherwise. -/
def State.serviceFlags (s : State) (i : Nat) : Flags :=
  match s.bound i with
  | some m => if (s.module m).state = .draining then { removed := true } else { resync := true }
  | none => { resync := true }

/-- The notice is queued by a pass, which finds room before it queues (R109). -/
def pushOwed (i : Nat) (kind : NoticeKind) (value : Int) (zone : Option Zone) (flags : Flags) (s : State) : State :=
  match s.elementNotice i kind value zone flags with
  | some n => s.pushNotice n
  | none => s

/-- An owed element is given the notice that states its condition, and its flag is cleared (R110). -/
def serveElement (i : Nat) (s : State) : State :=
  match (s.element i).control with
  | .key p c =>
    let s1 :=
      match p.mode with
      | .both => pushOwed i (if c.closed then .press else .release) 0 none (s.serviceFlags i) s
      | .toggle => pushOwed i .toggle (if c.latched then 1 else 0) none { resync := true } s
      | .pressOnly => s
    s1.updKey i fun c => { c with stale := false }
  | .level _ c =>
    (pushOwed i .level c.raw (some c.zone) { resync := true } s).updLevel i fun c =>
      { c with stale := false, lastGiven := some c.raw, held := none }
  | .encoder _ c =>
    let s1 := if c.carry = 0 then s else pushOwed i .turn c.carry none { resync := true } s
    s1.updEncoder i fun c => { c with carry := 0, carryOwed := false }
  | .raw _ => s
  | .ignore => s

/-- The owed elements of a lane in element-index order (R109). An index bound to no module names no one in a notice and
is left out; it is never owed in a run (log 23). -/
def State.owedOn (s : State) (l : Fin 8) : List Nat :=
  (s.elements.filter fun p => p.2.lane == l && p.2.control.isOwed && (s.bound p.1).isSome).map (·.1)

/-- One lane's part of a service pass (R109): an owed element whose kind waits is passed over, one that finds room is
served, and the first that finds none ends the lane. -/
def serveLane (l : Fin 8) : List Nat → State → State
  | [], s => s
  | i :: rest, s =>
    if s.freeSlots = 0 then s
    else if s.keyMode i = some .pressOnly then serveLane l rest (serveElement i s)
    else if s.serviceBlocked i then serveLane l rest s
    else if s.room l then serveLane l rest (serveElement i s)
    else s

/-- Step 1 of a service pass (R109, R112): the owed Overflow. -/
def serveOverflow (s : State) : State :=
  if 0 < s.systemLost ∧ s.room 0 then
    { s.pushNotice (systemNotice .overflow 0 0 s.systemLost) with systemLost := 0 }
  else s

/-- A service pass (R109): the owed Overflow, then the lanes from 0 to 7. With no free slot in the pool the pass does
nothing more. -/
def servicePass (s : State) : State :=
  allLanes.foldl (fun s l => serveLane l (s.owedOn l) s) (serveOverflow s)

end Sys2Proof.Machine
end

