-- ==== Sys2Proof/Machine/Arbiter.lean ====
section
/-! DEFINITION. The lane arbiter, the console transmitter, the in-service stack and the pass-through queue (spec/07,
R115 to R132; spec/06 R103). -/

namespace Sys2Proof.Machine

/-! ## Eligibility and the offer (R117, R118) -/

/-- The priority of a lane. -/
def State.priority (s : State) (l : Fin 8) : Nat := (s.lane l).entry.priority

/-- The lane is eligible (R117). -/
def State.eligible (s : State) (l : Fin 8) : Bool :=
  (s.lane l).fifo ≠ [] && !(s.lane l).entry.masked && s.priority l ≤ s.settings.ceiling &&
    s.stack.all fun k => s.priority l < s.priority k

/-- The better of two lanes for the arbiter (R118): the lower priority number, and the earlier one where they are equal. -/
def State.better (s : State) (best : Option (Fin 8)) (l : Fin 8) : Option (Fin 8) :=
  match best with
  | none => some l
  | some b => if s.priority l < s.priority b then some l else some b

/-- The lane the arbiter offers (R118): among the eligible lanes of the lowest priority number, the lowest lane number. -/
def State.offer (s : State) : Option (Fin 8) := (allLanes.filter s.eligible).foldl s.better none

/-! ## Takes (R121, R122) -/

/-- The lane enters the in-service stack and its service timer starts (R123, R124). -/
def enterService (l : Fin 8) (s : State) : State :=
  let s1 := { s with stack := s.stack ++ [l] }
  if 0 < (s.lane l).entry.limit then s1.setLane l { s.lane l with timer := some (s.lane l).entry.limit } else s1

/-- The burst count at the take of a notice (R121). -/
def burstAfterNotice (s : State) : Nat := if s.passQueue = [] then 0 else bump Config.burstTop s.burst

/-- The oldest notice of a lane is taken (R103, R122): it leaves its lane, a Held lane enters service, and a service pass
follows if the lane's count is then below its quota (R108), within the same event (log 33). -/
def takeNotice (l : Fin 8) (s : State) : State :=
  match (s.lane l).fifo with
  | [] => s
  | n :: rest =>
    let s1 := s.setLane l { s.lane l with fifo := rest }
    let s2 := { s1 with consoleTx := some (.notice n), burst := burstAfterNotice s }
    let s3 :=
      match (s.lane l).entry.mode with
      | .held => enterService l s2
      | .plain => s2
    if rest.length < (s.lane l).entry.quota then servicePass s3 else s3

/-- The reply at the head of the reply queue is taken (R122). -/
def takeReply (s : State) : State :=
  match s.replies with
  | [] => s
  | r :: rest => { s with replies := rest, consoleTx := some (.reply r) }

/-- The frame at the head of the pass-through queue is taken (R121, R122, R130). -/
def takePass (s : State) : State :=
  match s.passQueue with
  | [] => s
  | f :: rest => { s with passQueue := rest, consoleTx := some (.pass f), burst := 0 }

/-! ## Selection (R119, R120) -/

/-- A pass-through frame waits and bulk hold is off. -/
def State.passReady (s : State) : Bool := s.passQueue ≠ [] && !s.bulkHold

/-- What a selection chooses (R120). -/
inductive Choice where
  | reply
  | notice (l : Fin 8)
  | pass
  deriving DecidableEq, Repr

/-- The choice of a selection by the steps of R120; none if nothing is selected. -/
def State.choice (s : State) : Option Choice :=
  if s.replies ≠ [] then some .reply
  else
    match s.offer with
    | some l =>
      if s.settings.burst ≤ s.burst ∧ s.passReady then some .pass else some (.notice l)
    | none => if s.passReady then some .pass else none

/-- The chosen frame is taken (R122). -/
def takeChoice (c : Choice) (s : State) : State :=
  match c with
  | .reply => takeReply s
  | .notice l => takeNotice l s
  | .pass => takePass s

/-- A selection (R119): with the console serializer Idle and pause-in deasserted, the chosen frame is taken; none if no
selection is made or it finds nothing. -/
def selectStep (s : State) : Option State :=
  if s.consoleTx = none ∧ s.pauseIn = false then s.choice.map fun c => takeChoice c s else none

/-- The end of the frame in flight toward the console (R122): the serializer is Idle, and for a notice the freed slot
makes a service pass (R103, R108). With no frame in flight there is no such event (log 5). -/
def frameSent (s : State) : State :=
  match s.consoleTx with
  | none => s
  | some (.notice _) => servicePass { s with consoleTx := none }
  | some (.reply _) => { s with consoleTx := none }
  | some (.pass _) => { s with consoleTx := none }

/-! ## Service Done and expiry (R123 to R127) -/

/-- A lane leaves the in-service stack wherever it stands, and its service timer stops (R123 to R125). -/
def leaveService (l : Fin 8) (s : State) : State :=
  { s with stack := s.stack.filter (· != l) }.setLane l { s.lane l with timer := none }

/-- A Service Done for a lane reaches the arbiter (R125). -/
def serviceDone (l : Fin 8) (s : State) : State :=
  if l ∈ s.stack then leaveService l s
  else if (s.lane l).overdue then
    notify (systemNotice .serviceFault 0 l.val 1) (s.setLane l { s.lane l with overdue := false })
  else notify (systemNotice .serviceFault 0 l.val 2) s

/-- A lane's service timer expires (R124). -/
def serviceOverdue (l : Fin 8) (s : State) : State :=
  let s1 := leaveService l s
  notify (systemNotice .serviceOverdue 0 l.val 0) (s1.setLane l { s1.lane l with overdue := true })

/-! ## The pass-through queue (R130) -/

/-- A surface frame that is not consumed joins the pass-through queue or is dropped (R130). -/
def passFrame (f : Frame) (s : State) : State :=
  if s.passQueue.length < Config.passEntries then { s with passQueue := s.passQueue ++ [f] } else s.countPassDrop

end Sys2Proof.Machine
end

