-- ==== Sys2Proof/Machine/Capture.lean ====
section
/-! DEFINITION. The capture ring: recording, commit, overflow and withdrawal (spec/10, R160 to R164). -/

namespace Sys2Proof.Machine

/-- The module of a report entry; none for a sweep entry. -/
def CaptureEntry.reporter : CaptureEntry → Option ModuleIx
  | .report m _ _ => some m
  | .sweep _ _ _ => none

/-- The entries held, readable and uncommitted together (R160). -/
def CaptureRing.heldCount (c : CaptureRing) : Nat := c.readable.length + c.uncommitted.length

/-- The ring records for module `m`: enable yes and the filter admits it (R161, R162). -/
def CaptureRing.admits (c : CaptureRing) (m : ModuleIx) : Bool := c.enabled && (c.filter == none || c.filter == some m)

/-- The capture mark of a module is set. -/
def State.setMark (s : State) (m : ModuleIx) (k : Mark) : State := s.setModule m { s.module m with mark := k }

/-- The sweep of module `k` is dropped by an overflow of module `m`'s append (R163). -/
def State.dropsSweep (s : State) (m k : ModuleIx) : Bool :=
  k == m || ((s.module k).mark == .recording && s.capture.uncommitted.any fun e => e.reporter == some k)

/-- The overflow of an append of module `m` (R163): every uncommitted entry is withdrawn, the dropped sweeps are counted,
and their marks become Withdrawn; where the entry was a sweep entry, `m`'s own mark becomes Recording. -/
def captureOverflow (m : ModuleIx) (own : Mark) (s : State) : State :=
  let n := (allModules.filter (s.dropsSweep m)).length
  { s with
    capture := { s.capture with uncommitted := [], dropped := bumpBy Config.counterTop s.capture.dropped n }
    modules := Vector.ofFn fun k =>
      { s.module k with
        mark := if k = m then own else if s.dropsSweep m k then .withdrawn else (s.module k).mark } }

/-- A stored report is offered to the ring (R161). -/
def captureReport (m : ModuleIx) (element : Byte) (value : Word) (s : State) : State :=
  if s.capture.admits m && (s.module m).mark == .recording then
    if s.capture.heldCount < Config.captureEntries then
      { s with capture := { s.capture with uncommitted := s.capture.uncommitted ++ [.report m element value] } }
    else captureOverflow m .withdrawn s
  else s

/-- The outcome of a Sweep End is handed to the ring (R162). -/
def captureSweep (m : ModuleIx) (number : Byte) (outcome : SweepOutcome) (s : State) : State :=
  match (s.module m).mark with
  | .withdrawn => s.setMark m .recording
  | .recording =>
    if s.capture.admits m then
      if s.capture.heldCount < Config.captureEntries then
        { s with
          capture := { s.capture with
            readable := s.capture.readable ++ s.capture.uncommitted ++ [.sweep m number outcome]
            uncommitted := [] } }
      else captureOverflow m .recording s
    else s

/-- Steps 2 and 3 of Capture Control after a clear, a change of the enable or a change of the filter (R165): the
uncommitted entries are withdrawn and every mark is set afresh. -/
def captureRestart (s : State) : State :=
  { s with
    capture := { s.capture with uncommitted := [] }
    modules := mapAll (fun x => { x with mark := if 0 < x.sweep.received then .withdrawn else .recording }) s.modules }

/-- Capture Control without its reply (R165). -/
def captureControl (enabled : Bool) (filter : Option ModuleIx) (clear : Bool) (s : State) : State :=
  let s1 := if clear then { s with capture := { s.capture with readable := [], uncommitted := [] } } else s
  let s2 := if clear || enabled != s.capture.enabled || filter != s.capture.filter then captureRestart s1 else s1
  { s2 with capture := { s2.capture with enabled := enabled, filter := filter } }

end Sys2Proof.Machine
end

