-- ==== Sys2Proof/Machine/Outbound.lean ====
section
/-! DEFINITION. The outbound merger: the outbound queue, generated and owed frames, the watching of Indicator and Pace
frames, and the chain pace (spec/08, R133 to R142; spec/02 R30, R32; spec/04 R74, R75). -/

namespace Sys2Proof.Machine

/-! ## The queue (R133, R134) -/

/-- A frame joins the back of the outbound queue (R133). -/
def State.pushOut (f : Frame) (forwarded : Bool) (s : State) : State := { s with outbound := s.outbound ++ [⟨f, forwarded⟩] }

/-- The queue has a free entry. -/
def State.outboundRoom (s : State) : Bool := 0 < s.outboundFree

/-- The merger accepts a frame from the console port (R134): the forwarded count is below 28 and an entry is free. -/
def State.acceptsForwarded (s : State) : Bool := s.forwardedCount < Config.forwardedLimit && s.outboundRoom

/-! ## Watching Indicator frames (R137) -/

/-- The frame's address reaches the module: its own address, or 0 for every module. -/
def reaches (addr : BitVec 6) (m : ModuleIx) : Bool := addr == 0 || addr == m.bits

/-- The element at index `i` is a key the frame matches (R137): it names the indicator, and it is bound to an enabled
module the frame reaches. -/
def State.matchesIndicator (s : State) (addr : BitVec 6) (number : Nat) (i : Nat) (c : Control) : Bool :=
  match c with
  | .key p _ =>
    match p.echo, s.bound i with
    | some n, some m => n.val == number && reaches addr m
    | _, _ => false
  | _ => false

/-- A matched key takes the frame's state (R75, R137): the echo bit, echo-pending clear, and in Latch mode the latched
state. -/
def watchedKey (on : Bool) : Control → Control
  | .key p c =>
    .key p { c with echoBit := on, echoPending := false, latched := if p.echoMode = .latch then on else c.latched }
  | c => c

/-- An Indicator frame is watched as it enters the queue (R137); `except` is the key a generated frame was requested for. -/
def watchIndicator (addr : BitVec 6) (number : Nat) (on : Bool) (except : Option Nat) (s : State) : State :=
  s.mapControls fun i c => if except ≠ some i ∧ s.matchesIndicator addr number i c then watchedKey on c else c

/-- A generated Indicator frame is queued and watched (R135, R137). -/
def pushIndicator (m : ModuleIx) (number : Fin 64) (on : Bool) (i : Nat) (s : State) : State :=
  watchIndicator m.bits number.val on (some i) (s.pushOut (indicatorFrame m number on) false)

/-! ## Generated frames (R135, R30, R74, R51) -/

/-- A Pace frame carrying the chain pace is queued or owed (R135). -/
def requestPace (s : State) : State :=
  if s.outboundRoom then s.pushOut (paceFrame s.chainPace) false else { s with paceOwed := true }

/-- A Resync Request for a module is queued or owed (R30, R135). -/
def requestResync (m : ModuleIx) (s : State) : State :=
  if s.outboundRoom then s.pushOut (resyncFrame m) false
  else s.setModule m { s.module m with resyncOwed := true }

/-- The Indicator frame a key's echo asks for is queued or owed (R74): the indicator of its entry, and its echo bit. -/
def requestEcho (i : Nat) (s : State) : State :=
  match (s.element i).control, s.bound i with
  | .key p c, some m =>
    match p.echo with
    | some n =>
      if s.outboundRoom then pushIndicator m n c.echoBit i s
      else s.updKey i fun c => { c with echoPending := true }
    | none => s
  | _, _ => s

/-- An Indicator frame turning an indicator off is queued if an entry is free, and dropped otherwise (R51, R56). -/
def requestOff (m : ModuleIx) (number : Fin 64) (i : Nat) (s : State) : State :=
  if s.outboundRoom then pushIndicator m number false i s else s

/-! ## The chain pace (R32, R140) -/

/-- A module's pace view becomes Slow; if it changes and the module is Active, its watchdog is restarted with the slow
timeout (R32). -/
def slowView (slowTimeout : Nat) (x : Module) : Module :=
  { x with paceView := .slow,
           watchdog := if x.paceView = .brisk ∧ x.state = .active then some slowTimeout else x.watchdog }

/-- The chain pace becomes `p` (R140): a change to Slow changes every pace view at once; a change to Brisk changes none;
no change changes nothing (R139). -/
def setChainPace (p : Pace) (s : State) : State :=
  match s.chainPace, p with
  | .brisk, .slow =>
    { s with chainPace := .slow, modules := mapAll (slowView s.settings.slowTimeout) s.modules }
  | .slow, .brisk => { s with chainPace := .brisk }
  | .brisk, .brisk => s
  | .slow, .slow => s

/-- The key at index `i` is Closing, Closed or Opening (R141). -/
def State.keyBusy (s : State) (i : Nat) : Bool :=
  match (s.element i).control with
  | .key _ c => c.phase != .opened
  | _ => false

/-- The Active modules. -/
def State.activeModules (s : State) : List ModuleIx := allModules.filter fun m => (s.module m).state == .active

/-- The conditions of the quiet rule (R141). -/
def State.isQuiet (s : State) : Bool :=
  0 < s.settings.quiet && s.activeModules ≠ [] &&
    s.activeModules.all (fun m => s.settings.quiet ≤ (s.module m).emptyRun && !(s.boundTo m).any s.keyBusy) &&
    s.stack == []

/-- The merger is told that a sweep has been applied, and whether it held a slot (R141, R142). -/
def toldApplied (heldSlots : Bool) (s : State) : State :=
  match s.chainPace with
  | .brisk => if s.isQuiet then requestPace (setChainPace .slow s) else s
  | .slow => if heldSlots then requestPace (setChainPace .brisk s) else s

/-- The merger is told that a module has joined (R142). -/
def toldJoined (s : State) : State :=
  match s.chainPace with
  | .brisk => s
  | .slow => requestPace (setChainPace .brisk s)

/-! ## Console frames (R134, R137, R139) -/

/-- A frame of the console port that the merger does not watch (R134). -/
def mergeFrame (f : Frame) (s : State) : State :=
  if s.acceptsForwarded then s.pushOut f true else s.countOutboundDrop

/-- A console Indicator frame that fits its kind (R134, R137): forwarded and watched, or discarded and counted. -/
def mergeIndicator (f : Frame) (number mode : Byte) (s : State) : State :=
  if s.acceptsForwarded then watchIndicator f.addr number.toNat (mode != 0) none (s.pushOut f true)
  else s.countOutboundDrop

/-- A console Pace frame to address 0 that fits its kind (R134, R139): forwarded and watched, or discarded and counted. -/
def mergePace (f : Frame) (pace : Byte) (s : State) : State :=
  if s.acceptsForwarded then
    { setChainPace (if pace = 0 then .brisk else .slow) (s.pushOut f true) with paceOwed := false }
  else s.countOutboundDrop

/-! ## The owed pass (R136) -/

/-- The modules whose resync-owed flag is set, in address order. -/
def State.owedResyncs (s : State) : List ModuleIx := allModules.filter fun m => (s.module m).resyncOwed

/-- The bound keys whose echo-pending flag is set, in element-index order. -/
def State.owedEchoes (s : State) : List (Nat × ModuleIx × Fin 64 × Bool) :=
  s.elements.filterMap fun e =>
    match e.2.control, s.bound e.1 with
    | .key p c, some m =>
      match p.echo with
      | some n => if c.echoPending then some (e.1, m, n, c.echoBit) else none
      | none => none
    | _, _ => none

/-- The first owed frame in the order of R136 is queued and its flag cleared; none if nothing is owed. -/
def owedFrame (s : State) : Option State :=
  if s.paceOwed then some { s.pushOut (paceFrame s.chainPace) false with paceOwed := false }
  else
    match s.owedResyncs with
    | m :: _ => some ((s.pushOut (resyncFrame m) false).setModule m { s.module m with resyncOwed := false })
    | [] =>
      match s.owedEchoes with
      | (i, m, n, on) :: _ => some ((pushIndicator m n on i s).updKey i fun c => { c with echoPending := false })
      | [] => none

/-- Owed frames are queued while an entry is free; the count bounds them by the entries of the queue. -/
def owedFrames : Nat → State → State
  | 0, s => s
  | n + 1, s =>
    if s.outboundRoom then
      match owedFrame s with
      | some t => owedFrames n t
      | none => s
    else s

/-- The owed pass at the end of a transmission (R136). -/
def owedPass (s : State) : State := owedFrames s.outboundFree s

end Sys2Proof.Machine
end

