-- ==== Sys2Proof/Machine/Keys.lean ====
section
/-! DEFINITION. Key elements: raw and accepted state, debouncing, the latched state, repeats, echo, baseline, loss and
the entry to Draining (spec/04, R59 to R79; spec/02 R34 R38). -/

namespace Sys2Proof.Machine

/-! ## Echo (R73) -/

/-- The desired indicator state of a key (R73): the accepted state in Follow mode, the latched state in Latch mode. -/
def desired (p : KeyParams) (c : KeyCtx) : Bool :=
  match p.echoMode with
  | .follow => c.closed
  | .latch => c.latched

/-- A change of the desired state is acted on (R73): if it differs from the echo bit, the echo bit takes it, and a frame
is requested unless one is already owed. -/
def echoAct (i : Nat) (s : State) : State :=
  match (s.element i).control with
  | .key p c =>
    if p.echo.isSome ∧ desired p c ≠ c.echoBit then
      let s1 := s.updKey i fun c => { c with echoBit := desired p c }
      if c.echoPending then s1 else requestEcho i s1
    else s
  | _ => s

/-! ## Repeats (R69, R70) -/

/-- The profile a key's entry names (R68). -/
def State.profileOf (s : State) (p : KeyParams) : Option Profile := p.profile.map fun x => s.profiles[x]

/-- The repeat timer starts with the profile's delay and the count returns to 0 (R69); a key without a profile keeps
both. -/
def startRepeat (i : Nat) (s : State) : State :=
  match (s.element i).control with
  | .key p _ =>
    match s.profileOf p with
    | some pr => s.updKey i fun c => { c with timer := some pr.delay, sent := 0 }
    | none => s
  | _ => s

/-- The timer after a repeat (R69): stopped once a limit that is not 0 is reached, loaded with the interval otherwise. A
key without a profile has no running timer in a run; it is left stopped (log 23). -/
def afterRepeat (pr : Option Profile) (sent : Nat) : Timer :=
  match pr with
  | some pr => if pr.limit ≠ 0 ∧ pr.limit ≤ sent then none else some pr.interval
  | none => none

/-- A Repeat is given (R69, R70): the count rises, the notice carries it, and the timer restarts or stops. -/
def giveRepeat (i : Nat) (s : State) : State :=
  match (s.element i).control with
  | .key p c =>
    let n := bump Config.countTop c.sent
    let s1 := s.updKey i fun c => { c with sent := n, repeatDue := false }
    (giveNotice i .repeat_ n none {} s1).updKey i fun c => { c with timer := afterRepeat (s.profileOf p) n }
  | _ => s

/-- A key's repeat timer expires (R69, R70). A key that is Open or Closing has no running timer in a run (R72); its timer
is stopped. -/
def repeatExpiry (i : Nat) (s : State) : State :=
  match (s.element i).control with
  | .key _ c =>
    match c.phase with
    | .closed => giveRepeat i s
    | .opening => s.updKey i fun c => { c with repeatDue := true, timer := none }
    | .opened => s.updKey i fun c => { c with timer := none }
    | .closing => s.updKey i fun c => { c with timer := none }
  | _ => s

/-! ## Reported values and debouncing (R60 to R64) -/

/-- A valid value reaches a key (R60). -/
def keyReport (i : Nat) (v : Bool) (s : State) : State :=
  match (s.element i).control with
  | .key p c =>
    if c.rawClosed = v then s
    else if c.closed = v then
      let s1 := s.updKey i fun c => { c with rawClosed := v, settle := 0, bounce := bump Config.countTop c.bounce }
      if v ∧ c.repeatDue then giveRepeat i s1 else s1
    else s.updKey i fun c => { c with rawClosed := v, settle := if v then p.debounceDown else p.debounceUp }
  | _ => s

/-- A press is accepted (R63): the latched state flips, then the notice, the echo and the repeat timer. -/
def acceptPress (i : Nat) (s : State) : State :=
  match (s.element i).control with
  | .key p c =>
    let s1 := s.updKey i fun c => { c with closed := true, settle := 0, latched := !c.latched }
    let s2 :=
      match p.mode with
      | .toggle => giveNotice i .toggle (if c.latched then 0 else 1) none {} s1
      | .both => giveNotice i .press 0 none {} s1
      | .pressOnly => giveNotice i .press 0 none {} s1
    startRepeat i (echoAct i s2)
  | _ => s

/-- A release is accepted (R64): the repeat ends, a Both-mode key gives a Release, and a Follow echo acts. -/
def acceptRelease (i : Nat) (s : State) : State :=
  match (s.element i).control with
  | .key p _ =>
    let s1 := s.updKey i fun c => { c with closed := false, settle := 0, timer := none, repeatDue := false }
    let s2 :=
      match p.mode with
      | .both => giveNotice i .release 0 none {} s1
      | .toggle => s1
      | .pressOnly => s1
    match p.echoMode with
    | .follow => echoAct i s2
    | .latch => s2
  | _ => s

/-- Debouncing of one key is advanced at the end of an applied sweep (R61). -/
def debounce (i : Nat) (s : State) : State :=
  match (s.element i).control with
  | .key _ c =>
    match c.phase with
    | .opened => s
    | .closed => s
    | .closing => if c.settle = 0 then acceptPress i s else s.updKey i fun c => { c with settle := c.settle - 1 }
    | .opening => if c.settle = 0 then acceptRelease i s else s.updKey i fun c => { c with settle := c.settle - 1 }
  | _ => s

/-! ## Baseline, loss and Draining (R76, R48, R77, R38) -/

/-- A key is baselined with a valid value (R76). -/
def keyBaseline (i : Nat) (v : Bool) (s : State) : State :=
  match (s.element i).control with
  | .key p c =>
    let s1 := s.updKey i fun c =>
      { c with rawClosed := v, closed := v, settle := 0, timer := none, repeatDue := false, sent := 0 }
    let s2 :=
      match p.mode with
      | .toggle => giveNotice i .toggle (if c.latched then 1 else 0) none { baseline := true } s1
      | .both => if v then giveNotice i .press 0 none { baseline := true } s1 else s1
      | .pressOnly => if v then giveNotice i .press 0 none { baseline := true } s1 else s1
    let s3 :=
      if p.echo.isSome then
        let s3 := s2.updKey i fun c => { c with echoBit := desired p c }
        if c.echoPending then s3 else requestEcho i s3
      else s2
    if v then startRepeat i s3 else s3
  | _ => s

/-- A key whose value at the join is out of range is left Open (R48). -/
def keyNoBaseline (i : Nat) (s : State) : State :=
  s.updKey i fun c => { c with rawClosed := false, closed := false, settle := 0 }

/-- The key becomes Open and its repeat ends (R77, R38). -/
def openKey (c : KeyCtx) : KeyCtx :=
  { c with rawClosed := false, closed := false, settle := 0, timer := none, repeatDue := false }

/-- A key that was accepted Closed gives a Release with the given flags in Both mode, after becoming Open. -/
def releaseKey (i : Nat) (flags : Flags) (s : State) : State :=
  match (s.element i).control with
  | .key p c =>
    let s1 := s.updKey i openKey
    if c.closed ∧ p.mode = .both then giveNotice i .release 0 none flags s1 else s1
  | _ => s

/-- Loss handling of a key (R77). -/
def loseKey (i : Nat) (s : State) : State := releaseKey i { lost := true } s

/-- The stale flag of a key in Press Only or Toggle mode is cleared at the entry to Draining (R38). -/
def drainStale (i : Nat) (s : State) : State :=
  match (s.element i).control with
  | .key p _ => if p.mode = .both then s else s.updKey i fun c => { c with stale := false }
  | _ => s

/-- A lit echo lamp is turned off, or owed off, at the entry to Draining (R38). -/
def drainEcho (i : Nat) (s : State) : State :=
  match (s.element i).control with
  | .key p c =>
    if p.echo.isSome ∧ c.echoBit then
      let s1 := s.updKey i fun c => { c with echoBit := false }
      if c.echoPending then s1 else requestEcho i s1
    else s
  | _ => s

/-- The entry of a key's module into Draining (R38). -/
def drainKey (i : Nat) (s : State) : State := drainEcho i (drainStale i (releaseKey i { removed := true } s))

end Sys2Proof.Machine
end

