-- ==== Sys2Proof/Machine/Controls.lean ====
section
/-! DEFINITION. Encoders, levels, Raw and Ignore elements, and what the element processor does with a value, a baseline,
a loss and the entry to Draining by class (spec/05, R80 to R97; spec/03, R47 to R49; spec/02, R34, R39). -/

namespace Sys2Proof.Machine

/-! ## Encoders (R80 to R86) -/

/-- The four samples of a value, oldest first (R80). -/
def samples (v : Word) : List (BitVec 2) :=
  [v.extractLsb' 6 2, v.extractLsb' 4 2, v.extractLsb' 2 2, v.extractLsb' 0 2]

/-- What a sample is against the phase baseline (R81): a step of +1 or -1, no step, or a skip (none). -/
def stepOf (baseline sample : BitVec 2) : Option Int :=
  match baseline.toNat, sample.toNat with
  | 0, 1 | 1, 3 | 3, 2 | 2, 0 => some 1
  | 1, 0 | 3, 1 | 2, 3 | 0, 2 => some (-1)
  | 0, 3 | 3, 0 | 1, 2 | 2, 1 => none
  | _, _ => some 0

/-- The steps of a turn (R82). -/
def Resolution.steps : Resolution → Int
  | .fine => 1
  | .half => 2
  | .coarse => 4

/-- A step is counted into turns (R82): the new sub-position and the turn counted. -/
def countStep (r : Resolution) (sub d : Int) : Int × Int :=
  if sub + d = r.steps then (0, 1) else if sub + d = -r.steps then (0, -1) else (sub + d, 0)

/-- One sample is decoded (R81, R82): the context after it and the turn counted. -/
def decodeSample (r : Resolution) (c : EncoderCtx) (x : BitVec 2) : EncoderCtx × Int :=
  match stepOf c.phase x with
  | none => ({ c with phase := x, skips := bump Config.countTop c.skips }, 0)
  | some d =>
    if d = 0 then ({ c with phase := x }, 0)
    else ({ c with phase := x, sub := (countStep r c.sub d).1 }, (countStep r c.sub d).2)

/-- The samples of a sweep are decoded first to last (R80): the context after them and the sum of the turns. -/
def decodeSamples (r : Resolution) : List (BitVec 2) → EncoderCtx → EncoderCtx × Int
  | [], c => (c, 0)
  | x :: xs, c =>
    let a := decodeSample r c x
    let b := decodeSamples r xs a.1
    (b.1, a.2 + b.2)

/-- Acceleration and inversion of a sweep's delta (R83). -/
def shapeDelta (p : EncoderParams) (d : Int) : Int :=
  let a := if 0 < p.threshold ∧ p.threshold ≤ d.natAbs then d * p.factor else d
  if p.invert then -a else a

/-- A valid value reaches an encoder (R80 to R83). -/
def encoderReport (i : Nat) (v : Word) (s : State) : State :=
  match (s.element i).control with
  | .encoder p c =>
    let r := decodeSamples p.resolution (samples v) c
    let s1 := s.updEncoder i fun _ => r.1
    if shapeDelta p r.2 = 0 then s1 else placeTurn i (shapeDelta p r.2) s1
  | _ => s

/-- An encoder is baselined with a valid value (R85). -/
def encoderBaseline (i : Nat) (v : Word) (s : State) : State :=
  s.updEncoder i fun c => { c with phase := v.extractLsb' 0 2, sub := 0 }

/-- The sub-position is dropped (R48, R86). -/
def clearSub (i : Nat) (s : State) : State := s.updEncoder i fun c => { c with sub := 0 }

/-! ## Levels (R87 to R96) -/

/-- The zone of a value and the zone before, with the deadband as hysteresis (R88). -/
def zoneAfter (p : LevelParams) (before : Zone) (v : Nat) : Zone :=
  if p.zones then
    match before with
    | .mid => if v < p.low then .low else if p.high < v then .high else .mid
    | .low => if p.high < v then .high else if p.low + p.deadband ≤ v then .mid else .low
    | .high => if v < p.low then .low else if v + p.deadband ≤ p.high then .mid else .high
  else .mid

/-- The zone of a value without hysteresis (R95). -/
def zoneFresh (p : LevelParams) (v : Nat) : Zone :=
  if p.zones then (if v < p.low then .low else if p.high < v then .high else .mid) else .mid

/-- The zone is brought up to date, with a Zone notice if it changes (R88). -/
def updateZone (i : Nat) (v : Nat) (s : State) : State :=
  match (s.element i).control with
  | .level p c =>
    let z := zoneAfter p c.zone v
    let s1 := s.updLevel i fun c => { c with zone := z }
    if p.zones ∧ z ≠ c.zone then giveNotice i .zone 0 (some z) {} s1 else s1
  | _ => s

/-- The element's untaken Level is brought up to date in place (R89). -/
def replaceLevel (i : Nat) (v : Nat) (z : Zone) (s : State) : State :=
  (amend (s.isFor i .level) (fun n => { n with value := v, zone := some z }) s).updLevel i fun c =>
    { c with lastGiven := some v, held := none }

/-- A Level notice is handed over (R91, R92): when queued, the last given value becomes `v` and the timer takes
`started`; when it fails, R102 sets the stale flag and the timer takes `failed`. -/
def giveLevel (i : Nat) (v : Nat) (z : Zone) (flags : Flags) (started failed : Timer) (s : State) : State :=
  match s.elementNotice i .level v (some z) flags with
  | some n =>
    if s.room n.lane then
      (notify n s).updLevel i fun c => { c with lastGiven := some v, timer := started }
    else (notify n s).updLevel i fun c => { c with timer := failed }
  | none => s

/-- The timer loaded with a pace; a pace of 0 leaves it stopped (R91, R92). -/
def paceTimer (pace : Nat) : Timer := if 0 < pace then some pace else none

/-- The distance of two levels. -/
def distance (a b : Nat) : Nat := (a - b) + (b - a)

/-- The value lies within the deadband of the last given value (R90). -/
def inDeadband (p : LevelParams) (c : LevelCtx) (v : Nat) : Bool :=
  match c.lastGiven with
  | some g => distance v g < p.deadband
  | none => false

/-- A value that met no untaken Level: the deadband (R90), then given or held by the pace timer (R91). R90 holds after an
expiry too, where the first row of R93 states no deadband (log 32). -/
def judgeLevel (i : Nat) (v : Nat) (s : State) : State :=
  match (s.element i).control with
  | .level p c =>
    if inDeadband p c v then s.updLevel i fun c => { c with held := none }
    else
      match c.timer with
      | none => giveLevel i v c.zone {} (paceTimer p.pace) none s
      | some _ => s.updLevel i fun c => { c with held := some v }
  | _ => s

/-- The zone the level element at index `i` is in. -/
def State.zoneOf (s : State) (i : Nat) : Zone :=
  match (s.element i).control with
  | .level _ c => c.zone
  | _ => .mid

/-- A valid value reaches a level element (R87). -/
def levelReport (i : Nat) (v : Nat) (s : State) : State :=
  match (s.element i).control with
  | .level _ c =>
    if c.raw = v then s
    else
      let s1 := updateZone i v (s.updLevel i fun c => { c with raw := v })
      if s1.hasUntaken (s1.isFor i .level) then replaceLevel i v (s1.zoneOf i) s1 else judgeLevel i v s1
  | _ => s

/-- A level element's pace timer expires (R92). -/
def paceExpiry (i : Nat) (s : State) : State :=
  match (s.element i).control with
  | .level p c =>
    match c.held with
    | none => s.updLevel i fun c => { c with timer := none }
    | some h =>
      let s1 := s.updLevel i fun c => { c with held := none }
      if s.hasUntaken (s.isFor i .level) then
        (replaceLevel i h c.zone s1).updLevel i fun c => { c with timer := paceTimer p.pace }
      else giveLevel i h c.zone {} (paceTimer p.pace) none s1
  | _ => s

/-- An untaken Level of the index under any binding (R95, R106). -/
def isLevelOf (i : Nat) (n : Notice) : Bool := n.index == some i && n.kind == .level

/-- The untaken Level the baseline brings up to date (R95): found by element index and kind alone; where an element holds
one of its present binding and one of an earlier one, the present one is taken (log 16). -/
def State.baselineLevel (s : State) (i : Nat) : Notice → Bool :=
  if s.hasUntaken (s.isFor i .level) then s.isFor i .level else isLevelOf i

/-- A level element is baselined with a valid value (R95). -/
def levelBaseline (i : Nat) (v : Nat) (s : State) : State :=
  match (s.element i).control, s.bound i with
  | .level p _, some m =>
    let z := zoneFresh p v
    let s1 := s.updLevel i fun c => { c with raw := v, zone := z, lastGiven := some v, held := none }
    if s1.hasUntaken (isLevelOf i) then
      amend (s1.baselineLevel i) (fun n =>
        { n with value := v, zone := some z, module := m.addr, element := s.numberIn m i, flags := { baseline := true } }) s1
    else giveNotice i .level v (some z) { baseline := true } s1
  | _, _ => s

/-- The pace timer is stopped and the held value dropped (R34, R96). -/
def loseLevel (i : Nat) (s : State) : State := s.updLevel i fun c => { c with timer := none, held := none }

/-! ## Raw elements (R97) -/

/-- A Raw notice is given with the value as reported, and the last raw value becomes it. -/
def giveRaw (i : Nat) (v : Word) (flags : Flags) (s : State) : State :=
  giveNotice i .raw v.toNat none flags (s.setControl i (.raw (some v)))

/-! ## By class (R47, R48, R49, R34, R39) -/

/-- A slot of an applied sweep is handed to the element processor (R47, R49). -/
def reportValue (i : Nat) (v : Word) (s : State) : State :=
  match (s.element i).control with
  | .key _ _ => if v.toNat ≤ 1 then keyReport i (v == 1) s else s.countRangeError
  | .encoder _ _ => if v.toNat ≤ 255 then encoderReport i v s else s.countRangeError
  | .level _ _ => if v.toNat ≤ 1023 then levelReport i v.toNat s else s.countRangeError
  | .raw last => if last = some v then s else giveRaw i v {} s
  | .ignore => s

/-- Baseline of an element at a join (R48, R76, R85, R95, R97). -/
def baseline (i : Nat) (v : Word) (s : State) : State :=
  match (s.element i).control with
  | .key _ _ => if v.toNat ≤ 1 then keyBaseline i (v == 1) s else (keyNoBaseline i s).countRangeError
  | .encoder _ _ => if v.toNat ≤ 255 then encoderBaseline i v s else (clearSub i s).countRangeError
  | .level _ _ => if v.toNat ≤ 1023 then levelBaseline i v.toNat s else s.countRangeError
  | .raw _ => giveRaw i v { baseline := true } s
  | .ignore => s

/-- Loss handling of an element (R34, R77, R86, R96). -/
def loseElement (i : Nat) (s : State) : State :=
  match (s.element i).control with
  | .key _ _ => loseKey i s
  | .encoder _ _ => clearSub i s
  | .level _ _ => loseLevel i s
  | .raw _ => s
  | .ignore => s

/-- The entry of an element's module into Draining (R38, R39). -/
def drainElement (i : Nat) (s : State) : State :=
  match (s.element i).control with
  | .key _ _ => drainKey i s
  | .encoder _ _ => s.updEncoder i fun c => { c with carry := 0, carryOwed := false, sub := 0 }
  | .level _ _ => s.updLevel i fun c => { c with timer := none, held := none, stale := false }
  | .raw _ => s
  | .ignore => s

end Sys2Proof.Machine
end

