-- ==== Sys2Proof/Machine/Sweeps.lean ====
section
/-! DEFINITION. The sweep assembler: open sweeps, Sweep End, joining, loss, module entries and the flush (spec/02, R19
to R43; spec/10 R164). -/

namespace Sys2Proof.Machine

/-- A module changed by `f`. -/
def State.updModule (m : ModuleIx) (f : Module → Module) (s : State) : State := s.setModule m (f (s.module m))

/-! ## Reports (R22, R23, R24) -/

/-- The module's open sweep holds a slot for the element number. -/
def OpenSweep.holds (w : OpenSweep) (e : Nat) : Bool := w.slots.any fun x => x.element == e

/-- The value of the slot held for the element number is replaced where it stands (R22). -/
def OpenSweep.replace (w : OpenSweep) (e : Nat) (v : Word) : OpenSweep :=
  { w with slots := w.slots.map fun x => if x.element = e then { x with value := v } else x }

/-- A module's open sweep changed by `f`. -/
def State.updSweep (m : ModuleIx) (f : OpenSweep → OpenSweep) (s : State) : State :=
  s.updModule m fun x => { x with sweep := f x.sweep }

/-- One report entry of a module in Waiting or Active is taken (R22, R23). -/
def takeEntry (m : ModuleIx) (r : ReportEntry) (s : State) : State :=
  let w := (s.module m).sweep
  let e := r.element.toNat
  let s1 := s.updSweep m fun w => { w with received := bump 256 w.received }
  if (s.module m).entry.count ≤ e then s1.countRangeError
  else if w.broken then s1
  else if w.holds e then captureReport m r.element r.value (s1.updSweep m fun w => w.replace e r.value)
  else if s.slotsUsed < Config.sweepSlots then
    captureReport m r.element r.value (s1.updSweep m fun w => { w with slots := w.slots ++ [⟨e, r.value⟩] })
  else s1.updSweep m fun w => { w with slots := [], broken := true }

/-- The entries of an Element Report frame reach the sweep assembler (R22, R24). -/
def takeReport (m : ModuleIx) (es : List ReportEntry) (s : State) : State :=
  match (s.module m).state with
  | .waiting => es.foldl (fun s r => takeEntry m r s) s
  | .active => es.foldl (fun s r => takeEntry m r s) s
  | .silent => s
  | .draining => s
  | .unmapped => s

/-! ## Sweep End (R25 to R29) -/

/-- The watchdog is started or restarted with the duration the pace view gives (R31). -/
def startWatchdog (m : ModuleIx) (s : State) : State :=
  s.updModule m fun x =>
    { x with watchdog := some (match x.paceView with
        | .brisk => s.settings.briskTimeout
        | .slow => s.settings.slowTimeout) }

/-- The open sweep is discarded (R25): slots released, received 0, broken clear. -/
def discardSweep (m : ModuleIx) (s : State) : State := s.updSweep m fun _ => .empty

/-- The rejected count is incremented (R43). -/
def countRejected (m : ModuleIx) (s : State) : State :=
  s.updModule m fun x => { x with rejected := bump Config.counterTop x.rejected }

/-- The duplicate count is incremented (R43). -/
def countDuplicate (m : ModuleIx) (s : State) : State :=
  s.updModule m fun x => { x with duplicates := bump Config.counterTop x.duplicates }

/-- The gap count is incremented (R43). -/
def countGap (m : ModuleIx) (s : State) : State :=
  s.updModule m fun x => { x with gaps := bump Config.counterTop x.gaps }

/-- The pace view is brought up to date at a Sweep End (R32): Brisk while the chain pace is Brisk. -/
def updateView (m : ModuleIx) (s : State) : State :=
  match s.chainPace with
  | .brisk => s.updModule m fun x => { x with paceView := .brisk }
  | .slow => s

/-- Applying a sweep (R26). -/
def applySweep (m : ModuleIx) (number : Byte) (s : State) : State :=
  let w := (s.module m).sweep
  let s1 := w.slots.foldl (fun t x => reportValue ((s.module m).entry.base + x.element) x.value t) s
  let s2 := (s1.boundTo m).foldl (fun t i => debounce i t) s1
  let s3 := s2.updModule m fun x =>
    { x with emptyRun := if w.slots = [] then bump Config.countTop x.emptyRun else 0, lastApplied := some number,
             sweep := .empty }
  toldApplied (w.slots ≠ []) s3

/-- The outcome of a Sweep End in Active: the first case of R25 that holds. -/
def judgeSweep (x : Module) (number count : Byte) : SweepOutcome :=
  if x.lastApplied = some number then .duplicate
  else if x.sweep.broken then .broken
  else if count.toNat ≠ x.sweep.received then .count
  else if x.lastApplied = some (number - 1) then .applied
  else .gap

/-- A Sweep End in Active, after the pace view (R25). -/
def sweepEndActive (m : ModuleIx) (number count : Byte) (s : State) : State :=
  let o := judgeSweep (s.module m) number count
  let s1 :=
    match o with
    | .duplicate => countDuplicate m (discardSweep m s)
    | .broken => countRejected m (discardSweep m s)
    | .count => countRejected m (discardSweep m s)
    | .gap => countGap m (applySweep m number s)
    | _ => applySweep m number s
  captureSweep m number o (startWatchdog m s1)

/-- The value of the slot an open sweep holds for an element number. -/
def OpenSweep.value (w : OpenSweep) (e : Nat) : Option Word := (w.slots.find? fun x => x.element == e).map (·.value)

/-- The Sweep End makes a complete Full sweep (R27). -/
def completeFull (x : Module) (count flags : Byte) : Bool :=
  flags.getLsbD 0 && !x.sweep.broken && count.toNat == x.sweep.received &&
    (List.range x.entry.count).all fun e => x.sweep.holds e

/-- A module joins (R28). -/
def joinModule (m : ModuleIx) (number : Byte) (s : State) : State :=
  let w := (s.module m).sweep
  let s1 := s.updModule m fun x =>
    { x with state := .active, lastApplied := some number, emptyRun := 0, resyncOwed := false }
  let s2 := startWatchdog m s1
  let s3 := notify (systemNotice .moduleJoined m.addr 0 (s.module m).entry.count) s2
  let s4 := (List.range (s.module m).entry.count).foldl
    (fun t e => baseline ((s.module m).entry.base + e) ((w.value e).getD 0) t) s3
  captureSweep m number .joined (toldJoined (discardSweep m s4))

/-- A Sweep End in Waiting, after the pace view (R27). -/
def sweepEndWaiting (m : ModuleIx) (number count flags : Byte) (s : State) : State :=
  if completeFull (s.module m) count flags then joinModule m number s
  else requestResync m (captureSweep m number .waiting (countRejected m (discardSweep m s)))

/-- A Sweep End in Silent, after the pace view (R29). -/
def sweepEndSilent (m : ModuleIx) (number : Byte) (s : State) : State :=
  requestResync m ((captureSweep m number .waiting (countRejected m s)).updModule m fun x => { x with state := .waiting })

/-- A Sweep End in Draining, after the pace view (R29). -/
def sweepEndDraining (m : ModuleIx) (number : Byte) (s : State) : State :=
  captureSweep m number .draining (countRejected m s)

/-- A Sweep End reaches the sweep assembler (R25, R27, R29). -/
def takeSweepEnd (m : ModuleIx) (number count flags : Byte) (s : State) : State :=
  match (s.module m).state with
  | .active => sweepEndActive m number count (updateView m s)
  | .waiting => sweepEndWaiting m number count flags (updateView m s)
  | .silent => sweepEndSilent m number (updateView m s)
  | .draining => sweepEndDraining m number (updateView m s)
  | .unmapped => s

/-! ## Loss (R33, R34) -/

/-- The open sweep is discarded outside a Sweep End, and the capture mark becomes Recording (R33, R36, R37, R164). -/
def dropSweep (m : ModuleIx) (s : State) : State := (discardSweep m s).setMark m .recording

/-- The watchdog of an Active module expires (R33). -/
def watchdogLoss (m : ModuleIx) (s : State) : State :=
  let s1 := (dropSweep m s).updModule m fun x => { x with state := .silent, watchdog := none }
  let s2 := notify (systemNotice .moduleLost m.addr 0 0) s1
  (s.boundTo m).foldl (fun t i => loseElement i t) s2

/-! ## Module entries (R36, R37, R41) -/

/-- The context at index `i` is reset to idle (R51). -/
def resetContext (i : Nat) (s : State) : State := s.setControl i (s.element i).control.toIdle

/-- The Indicator request that a reset by a write makes first (R51): for a key whose echo bit is 1 under an entry that
names an indicator, to the module it was bound to. -/
def offAtReset (m : ModuleIx) (i : Nat) (s : State) : State :=
  match (s.element i).control with
  | .key p c =>
    match p.echo with
    | some n => if c.echoBit then requestOff m n i s else s
    | none => s
  | _ => s

/-- The contexts of a range are reset without a frame (R41, R51). -/
def resetRange (e : ModuleEntry) (s : State) : State :=
  if e.enabled then e.range.foldl (fun t i => resetContext i t) s else s

/-- The contexts of the old range of module `m` are reset by a Write Module that takes effect at once (R36, R51): index
by index in rising order, the off frame of a key ahead of the reset of its context. R36 and R51 give no order among the
elements of a range: DESIGN CHOICE, log 29. -/
def resetBoundRange (m : ModuleIx) (e : ModuleEntry) (s : State) : State :=
  if e.enabled then e.range.foldl (fun t i => resetContext i (offAtReset m i t)) s else s

/-- The end of a change of entry (R36 steps 4 and 5, R41 steps 3 and 4). -/
def enterMapped (m : ModuleIx) (e : ModuleEntry) (s : State) : State :=
  let s1 := s.updModule m fun x => { x with lastApplied := none, emptyRun := 0 }
  if e.enabled then requestResync m (s1.updModule m fun x => { x with state := .waiting })
  else s1.updModule m fun x => { x with state := .unmapped, resyncOwed := false }

/-- A Write Module takes effect at once (R36), without the reply. -/
def installAtOnce (m : ModuleIx) (e : ModuleEntry) (s : State) : State :=
  let old := (s.module m).entry
  let s1 := (dropSweep m s).updModule m fun x => { x with entry := e }
  enterMapped m e (resetRange e (resetBoundRange m old s1))

/-- The entry of an Active module into Draining (R37 to R39) and the service pass that follows (R108). -/
def enterDraining (m : ModuleIx) (s : State) : State :=
  let s1 := (dropSweep m s).updModule m fun x => { x with state := .draining, watchdog := none }
  servicePass ((s1.boundTo m).foldl (fun t i => drainElement i t) s1)

/-- The key at index `i` still owes the flush something (R41). -/
def State.flushOwes (s : State) (i : Nat) : Bool :=
  match (s.element i).control with
  | .key p c => (p.mode == .both && c.stale) || c.echoPending
  | _ => false

/-- The flush of module `m` is complete (R41). -/
def State.flushDone (s : State) (m : ModuleIx) : Bool := !(s.boundTo m).any s.flushOwes

/-- The completion of a flush (R41), without the reply. -/
def completeFlush (m : ModuleIx) (e : ModuleEntry) (s : State) : State :=
  let old := (s.module m).entry
  let s1 := s.updModule m fun x => { x with entry := e }
  enterMapped m e (resetRange e (resetRange old s1))

end Sys2Proof.Machine
end

