-- ==== Sys2Proof/Machine/Elements.lean ====
section
/-! DEFINITION. Writing an element entry: at rest with a reset, and in place under an Active module (spec/03, R51 to
R57). -/

namespace Sys2Proof.Machine

/-- A Write Element for an index not bound to an Active module (R53): the indicator request of R51, then the entry is
written whole with an idle context. -/
def writeAtRest (i : Nat) (lane : Fin 8) (c : Control) (s : State) : State :=
  let s1 :=
    match s.bound i with
    | some m => offAtReset m i s
    | none => s
  s1.setElement i ⟨lane, c.toIdle⟩

/-- The settle count and the repeat timer under new key parameters (R55). -/
def retuneKey (p : KeyParams) (c : KeyCtx) : KeyCtx :=
  let settle :=
    match c.phase with
    | .closing => min c.settle p.debounceDown
    | .opening => min c.settle p.debounceUp
    | .opened => c.settle
    | .closed => c.settle
  if p.profile = none then { c with settle := settle, timer := none, repeatDue := false } else { c with settle := settle }

/-- The stale flag under a new notice mode (R56). -/
def retuneMode (old new : NoticeMode) (stale : Bool) : Bool :=
  if old = new then stale
  else
    match new with
    | .both => true
    | .pressOnly => false
    | .toggle => stale

/-- The off frame for an old echo indicator, requested when the indicator changes while the echo bit is 1 or a frame is
owed (R56). -/
def dropEcho (i : Nat) (old : KeyParams) (c : KeyCtx) (s : State) : State :=
  let s1 :=
    match old.echo, s.bound i with
    | some n, some m => if c.echoBit ∨ c.echoPending then requestOff m n i s else s
    | _, _ => s
  s1.updKey i fun c => { c with echoBit := false, echoPending := false }

/-- The echo effects of an in-place write (R56), after the new parameters are written. -/
def retuneEcho (i : Nat) (old new : KeyParams) (c : KeyCtx) (s : State) : State :=
  if new.echo ≠ old.echo then echoAct i (dropEcho i old c s)
  else if new.echoMode ≠ old.echoMode then echoAct i s
  else s

/-- An in-place write to a Key entry (R55, R56); a stale flag set by a change to Both starts a service pass (R108), which
comes after the echo effects of the same write: the model's choice (log 31). -/
def writeKeyInPlace (i : Nat) (old new : KeyParams) (c : KeyCtx) (s : State) : State :=
  let c1 := { retuneKey new c with stale := retuneMode old.mode new.mode c.stale }
  let s1 := retuneEcho i old new c (s.setControl i (.key new c1))
  if old.mode ≠ new.mode ∧ new.mode = .both then servicePass s1 else s1

/-- An in-place write to an Encoder entry (R57). -/
def retuneEncoder (old new : EncoderParams) (c : EncoderCtx) : EncoderCtx :=
  if old.resolution = new.resolution then c else { c with sub := 0 }

/-- An in-place write to a Level entry (R57): the zone becomes Mid when zones are turned off. -/
def retuneLevel (old new : LevelParams) (c : LevelCtx) : LevelCtx :=
  if old.zones ∧ ¬ new.zones then { c with zone := .mid } else c

/-- A Write Element in place (R54), when its class equals the present one; none when the class differs. -/
def writeInPlace (i : Nat) (new : Control) (s : State) : Option State :=
  match (s.element i).control with
  | .key p c => match new with
    | .key q _ => some (writeKeyInPlace i p q c s)
    | _ => none
  | .encoder p c => match new with
    | .encoder q _ => some (s.setControl i (.encoder q (retuneEncoder p q c)))
    | _ => none
  | .level p c => match new with
    | .level q _ => some (s.setControl i (.level q (retuneLevel p q c)))
    | _ => none
  | .raw _ => match new with
    | .raw _ => some s
    | _ => none
  | .ignore => match new with
    | .ignore => some s
    | _ => none

/-- An accepted Write Element (R52 to R54); none where it is refused with Module Active. -/
def writeElementEntry (i : Nat) (lane : Fin 8) (c : Control) (s : State) : Option State :=
  match s.bound i with
  | some m =>
    if (s.module m).state = .active then
      if (s.element i).lane = lane then writeInPlace i c s else none
    else some (writeAtRest i lane c s)
  | none => some (writeAtRest i lane c s)

end Sys2Proof.Machine
end

