-- ==== Sys2Proof/Machine/Restart.lean ====
section
/-! DEFINITION. Restarts: what a cold and a warm restart reset and keep, their completion, link breaks and the power-on
reset input (spec/01 R14 to R16; spec/09 R157 to R159; spec/02 R20; spec/06 R114; spec/07 R132; spec/08 R144). -/

namespace Sys2Proof.Machine

/-- A cold restart begins (R157): everything takes its reset value. What no restart resets stays: the levels of the
input lines, the reset-cause record until the completion (R159), and the commands that wait. -/
def beginCold (s : State) : State :=
  { State.blank with
    pauseIn := s.pauseIn, consoleRx := s.consoleRx, powerReset := s.powerReset, resetCause := s.resetCause,
    pending := s.pending }

/-- A warm restart begins (R157): as a cold one, but the tables of the table store and the capture filter are kept, a
module is Waiting where its entry is enabled, and every element context is idle under its entry (R20, R50, R160). -/
def beginWarm (s : State) : State :=
  { beginCold s with
    settings := s.settings, profiles := s.profiles, lanes := mapAll (fun x => .idle x.entry) s.lanes,
    modules := mapAll (fun x => .idle x.entry) s.modules,
    elements := s.elements.map (fun p => (p.1, { p.2 with control := p.2.control.toIdle })),
    capture := .idle s.capture.filter }

/-- The modules in Waiting, in address order. -/
def State.waitingModules (s : State) : List ModuleIx := allModules.filter fun m => (s.module m).state == .waiting

/-- The frames a warm restart's completion queues (R144, R158): Pace, Brisk, to address 0, then a Resync Request for each
Waiting module. -/
def restartFrames (s : State) : State :=
  s.waitingModules.foldl (fun t m => requestResync m t) (s.pushOut (paceFrame .brisk) false)

/-- The cause is recorded, the Restarted notice is queued and the service pass follows (R158, R159, R111). -/
def announce (cause : Cause) (s : State) : State :=
  servicePass (notify (.restarted cause.code) { s with resetCause := cause })

/-- A cold restart completes (R158): after it every module is Unmapped, so the merger queues nothing. -/
def completeCold (cause : Cause) (s : State) : State := announce cause s

/-- A warm restart completes (R158). -/
def completeWarm (cause : Cause) (s : State) : State := announce cause (restartFrames s)

/-- A Cold request is carried out: the restart completes in the event in which it begins (R157). -/
def restartCold (s : State) : State := completeCold .coldRequest (beginCold s)

/-- A Warm request is carried out (R157). -/
def restartWarm (s : State) : State := completeWarm .warmRequest (beginWarm s)

/-- A link break is detected (R15): a warm restart begins and the detector is Broken, the line at spacing. -/
def breakDetected (s : State) : State := { beginWarm s with detector := .broken, consoleRx := .spacing }

/-- The console receive line returns to, or is at, the marking level (R14, R16): Spacing Seen goes back to Clear, and in
Broken the break ends and the warm restart completes with cause Link Break. -/
def lineToMarking (s : State) : State :=
  match s.detector with
  | .clear => { s with consoleRx := .marking }
  | .spacingSeen => { s with consoleRx := .marking, detector := .clear }
  | .broken => completeWarm .linkBreak { s with consoleRx := .marking, detector := .clear }

/-- The power-on reset input is asserted (R158): a cold restart begins, and the detector is held in Clear. -/
def powerOnBegins (s : State) : State := { beginCold s with powerReset := true }

/-- The power-on reset input is deasserted (R158): the cold restart completes with cause Power-on. -/
def powerOnEnds (s : State) : State := completeCold .powerOn { s with powerReset := false }

end Sys2Proof.Machine
end

