-- ==== Sys2Proof/Machine/Management.lean ====
section
/-! DEFINITION. The management unit: the request and reply queues and each request (spec/09, R145 to R156; spec/02 R35;
spec/03 R52 R58; spec/10 R165 R166). -/

namespace Sys2Proof.Machine

/-- The execution of a request ends with its reply handed over (R146, R147): the request awaits a slot of the reply
queue, which it enters at once where one is free. -/
def answer (r : Request) (a : Answer) (s : State) : State := { s with head := .awaitingSlot ⟨r.tag, r.code, a⟩ }

/-- A refusal writes nothing (R148). -/
def refuse (r : Request) (reason : Reason) (s : State) : State := answer r (.refused reason) s

/-- Done with no data. -/
def done (r : Request) (s : State) : State := answer r (.done []) s

/-! ## Status and settings (R149, R150) -/

/-- The data of Read Status (R149). -/
def statusBytes (r : Request) (s : State) : List Byte :=
  [BitVec.ofNat 8 s.resetCause.code, s.chainPace.byte, BitVec.ofNat 8 s.stack.length] ++
    ((s.stack.map fun (l : Fin 8) => BitVec.ofNat 8 l.val) ++ List.replicate 8 255).take 8 ++ [BitVec.ofNat 8 s.freeSlots] ++
    (allLanes.map fun l => BitVec.ofNat 8 (s.lane l).fifo.length) ++
    [BitVec.ofNat 8 s.passQueue.length, BitVec.ofNat 8 s.outboundFree, flagByte s.bulkHold, flagByte r.waited]

/-- Read Status (R149). -/
def readStatus (r : Request) (s : State) : State :=
  match r.args with
  | [] => answer r (.done (statusBytes r s)) s
  | _ => refuse r .badRequest s

/-- Read Settings (R150). -/
def readSettings (r : Request) (s : State) : State :=
  match r.args with
  | [] => answer r (.done s.settings.bytes) s
  | _ => refuse r .badRequest s

/-- Write Settings (R150). -/
def writeSettings (r : Request) (s : State) : State :=
  match r.args with
  | [b1, b0, w1, w0, quiet, ceiling, burst] =>
    match settingsOf (wordOf b1 b0) (wordOf w1 w0) quiet ceiling burst with
    | some x => done r { s with settings := x }
    | none => refuse r .badArgument s
  | _ => refuse r .badRequest s

/-! ## Modules (R151, R35) -/

/-- Read Module (R151). -/
def readModule (r : Request) (s : State) : State :=
  match r.args with
  | [a] =>
    match moduleOfNat a.toNat with
    | some m => answer r (.done (s.module m).bytes) s
    | none => refuse r .badArgument s
  | _ => refuse r .badRequest s

/-- The ranges of two entries share an index (R19). -/
def ModuleEntry.meets (x y : ModuleEntry) : Bool := x.base < y.base + y.count && y.base < x.base + x.count

/-- A new enabled entry of module `m` would share an index with an enabled entry of another address (R19, R148). -/
def State.overlaps (s : State) (m : ModuleIx) (e : ModuleEntry) : Bool :=
  e.enabled && allModules.any fun k => k != m && (s.module k).entry.enabled && (s.module k).entry.meets e

/-- An accepted Write Module (R35): no effect if it equals the present entry, a flush in Active, at once otherwise. -/
def carryWriteModule (r : Request) (m : ModuleIx) (e : ModuleEntry) (s : State) : State :=
  if (s.module m).entry = e then done r s
  else
    match (s.module m).state with
    | .active => { enterDraining m s with head := .flushing m e }
    | .unmapped => done r (installAtOnce m e s)
    | .waiting => done r (installAtOnce m e s)
    | .silent => done r (installAtOnce m e s)
    | .draining => done r (installAtOnce m e s)

/-- Write Module (R35, R151). -/
def writeModule (r : Request) (s : State) : State :=
  match r.args with
  | [a, enabled, b1, b0, count] =>
    match moduleOfNat a.toNat, moduleEntryOf enabled (wordOf b1 b0) count with
    | some m, some e => if s.overlaps m e then refuse r .overlap s else carryWriteModule r m e s
    | _, _ => refuse r .badArgument s
  | _ => refuse r .badRequest s

/-! ## Elements (R58, R52) -/

/-- Read Element (R58). -/
def readElement (r : Request) (s : State) : State :=
  match r.args with
  | [i1, i0] =>
    if (wordOf i1 i0).toNat < Config.elementCount then
      answer r (.done ((s.element (wordOf i1 i0).toNat).bytes (wordOf i1 i0).toNat)) s
    else refuse r .badArgument s
  | _ => refuse r .badRequest s

/-- Write Element with a header (R52): the class decides the length, then every field is checked. -/
def writeElementChecked (r : Request) (i : Nat) (cls lane : Byte) (ps : List Byte) (s : State) : State :=
  match paramLength cls.toNat with
  | none => refuse r .badArgument s
  | some n =>
    if ps.length ≠ n then refuse r .badRequest s
    else
      match laneOf lane.toNat, controlOf cls.toNat ps with
      | some l, some c =>
        if i < Config.elementCount then
          match writeElementEntry i l c s with
          | some t => done r t
          | none => refuse r .moduleActive s
        else refuse r .badArgument s
      | _, _ => refuse r .badArgument s

/-- Write Element (R52). Arguments too short to hold the header have a class byte to judge by only when three are there
(log 17). -/
def writeElement (r : Request) (s : State) : State :=
  match r.args with
  | i1 :: i0 :: cls :: lane :: ps => writeElementChecked r (wordOf i1 i0).toNat cls lane ps s
  | [_, _, cls] => if 4 < cls.toNat then refuse r .badArgument s else refuse r .badRequest s
  | _ => refuse r .badRequest s

/-! ## Lanes and profiles (R153, R154) -/

/-- Read Lane (R153). -/
def readLane (r : Request) (s : State) : State :=
  match r.args with
  | [l] =>
    match laneOf l.toNat with
    | some l => answer r (.done (s.lane l).entry.bytes) s
    | none => refuse r .badArgument s
  | _ => refuse r .badRequest s

/-- A lane entry is written (R128, R153); a quota raised above the lane's count starts a service pass (R108). -/
def writeLaneEntry (l : Fin 8) (e : LaneEntry) (s : State) : State :=
  let s1 := s.setLane l { s.lane l with entry := e }
  if (s.lane l).entry.quota < e.quota ∧ (s.lane l).fifo.length < e.quota then servicePass s1 else s1

/-- Write Lane (R153). -/
def writeLane (r : Request) (s : State) : State :=
  match r.args with
  | [l, priority, masked, mode, urgent, quota, t1, t0] =>
    match laneOf l.toNat, laneEntryOf priority masked mode urgent quota (wordOf t1 t0) with
    | some l, some e => done r (writeLaneEntry l e s)
    | _, _ => refuse r .badArgument s
  | _ => refuse r .badRequest s

/-- Read Profile (R154). -/
def readProfile (r : Request) (s : State) : State :=
  match r.args with
  | [p] =>
    match laneOf p.toNat with
    | some p => answer r (.done s.profiles[p].bytes) s
    | none => refuse r .badArgument s
  | _ => refuse r .badRequest s

/-- Write Profile (R154). -/
def writeProfile (r : Request) (s : State) : State :=
  match r.args with
  | [p, d1, d0, i1, i0, limit] =>
    match laneOf p.toNat, profileOf (wordOf d1 d0) (wordOf i1 i0) limit with
    | some p, some x => done r { s with profiles := s.profiles.set p x }
    | _, _ => refuse r .badArgument s
  | _ => refuse r .badRequest s

/-! ## Counters (R155) -/

/-- The data of Read Counters (R155). -/
def counterBytes (s : State) : List Byte :=
  natBytes s.counters.surfaceErrors ++ natBytes s.counters.consoleErrors ++ natBytes s.counters.misaddressed ++
    natBytes s.counters.rangeErrors ++ natBytes s.counters.discarded ++ natBytes s.counters.passDrops ++
    natBytes s.counters.outboundDrops ++ natBytes s.counters.requestDrops ++ natBytes s.capture.dropped ++
    (allLanes.map fun l => natBytes (s.lane l).overflow).flatten

/-- The seventeen counters are set to 0 (R155). -/
def clearCounters (s : State) : State :=
  { s with
    counters := .zero, capture := { s.capture with dropped := 0 }, lanes := mapAll (fun x => { x with overflow := 0 }) s.lanes }

/-- Read Counters (R155). -/
def readCounters (r : Request) (s : State) : State :=
  match r.args with
  | [c] => answer r (.done (counterBytes s)) (if isYes c then clearCounters s else s)
  | _ => refuse r .badRequest s

/-! ## Capture requests (R165, R166) -/

/-- The filter a byte names (R165): 0 for all modules, a module address, or out of range. -/
def filterOf (b : Byte) : Option (Option ModuleIx) :=
  if b = 0 then some none else (moduleOfNat b.toNat).map some

/-- Capture Control (R165). -/
def controlCapture (r : Request) (s : State) : State :=
  match r.args with
  | [enabled, filter, clear] =>
    match filterOf filter with
    | some f =>
      let s1 := captureControl (isYes enabled) f (isYes clear) s
      answer r (.done (natBytes s1.capture.readable.length)) s1
    | none => refuse r .badArgument s
  | _ => refuse r .badRequest s

/-- Capture Read (R166). -/
def captureRead (r : Request) (s : State) : State :=
  match r.args with
  | [count] =>
    if 1 ≤ count.toNat ∧ count.toNat ≤ 16 then
      let got := s.capture.readable.take count.toNat
      answer r (.done (BitVec.ofNat 8 got.length :: (got.map CaptureEntry.bytes).flatten))
        { s with capture := { s.capture with readable := s.capture.readable.drop count.toNat } }
    else refuse r .badArgument s
  | _ => refuse r .badRequest s

/-! ## Execution (R146, R148, R156) -/

/-- The forms of a Restart request (R156). -/
inductive RestartForm where
  | cold
  | warm
  deriving DecidableEq, Repr

/-- The form of a Restart request that passes its checks (R156); none for any other request. -/
def Request.restartForm (r : Request) : Option RestartForm :=
  match r.code.toNat, r.args with
  | 13, [f] => if f = 0 then some .cold else if f = 1 then some .warm else none
  | _, _ => none

/-- A restart by its form (R156). -/
def restart (f : RestartForm) (s : State) : State :=
  match f with
  | .cold => restartCold s
  | .warm => restartWarm s

/-- A Restart request that reaches the head (R156): it failed its checks on arrival, so it is refused. One that passes
them never waits in the queue in a run; here it restarts (log 23). -/
def restartRequest (r : Request) (s : State) : State :=
  match r.restartForm with
  | some f => restart f s
  | none =>
    match r.args with
    | [_] => refuse r .badArgument s
    | _ => refuse r .badRequest s

/-- A request is executed (R146, R148): by its code; a code of 0 or above 15 is refused with Bad Request. -/
def carryOut (r : Request) (s : State) : State :=
  match r.code.toNat with
  | 1 => readStatus r s
  | 2 => readSettings r s
  | 3 => writeSettings r s
  | 4 => readModule r s
  | 5 => writeModule r s
  | 6 => readElement r s
  | 7 => writeElement r s
  | 8 => readLane r s
  | 9 => writeLane r s
  | 10 => readProfile r s
  | 11 => writeProfile r s
  | 12 => readCounters r s
  | 13 => restartRequest r s
  | 14 => controlCapture r s
  | 15 => captureRead r s
  | _ => refuse r .badRequest s

/-- A request joins the back of the request queue with the record of R145. -/
def joinQueue (tag code : Byte) (args : List Byte) (s : State) : State :=
  { s with requests := s.requests ++ [⟨tag, code, args, s.requests ≠ []⟩] }

/-- A Request frame arrives (R145, R156): dropped if the queue holds 4 requests; a Restart that passes its checks is
executed at once; any other joins the queue. -/
def requestArrives (tag code : Byte) (args : List Byte) (s : State) : State :=
  if s.requests.length < Config.requestEntries then
    match (Request.mk tag code args false).restartForm with
    | some f => restart f s
    | none => joinQueue tag code args s
  else s.countRequestDrop

/-! ## The request in flight (R146, R147) -/

/-- The request at the head is executed, if it has not been (R146). -/
def executeStep (s : State) : Option State :=
  match s.head, s.requests with
  | .ready, r :: _ => some (carryOut r s)
  | _, _ => none

/-- A waiting reply enters a free entry of the reply queue, and its request leaves (R146, R147). -/
def slotStep (s : State) : Option State :=
  match s.head with
  | .awaitingSlot reply =>
    if s.replies.length < Config.replyEntries then
      some { s with replies := s.replies ++ [reply], requests := s.requests.tail, head := .ready }
    else none
  | .ready => none
  | .flushing _ _ => none

/-- A flush whose test succeeds completes (R41), and its Done reply is handed over. -/
def flushStep (s : State) : Option State :=
  match s.head, s.requests with
  | .flushing m e, r :: _ => if s.flushDone m then some (done r (completeFlush m e s)) else none
  | _, _ => none

end Sys2Proof.Machine
end

