-- ==== Sys2Proof/Machine/Settle.lean ====
section
/-! DEFINITION. What the block does at once after an event, without a command of its own: complete a flush, let a
waiting reply into the reply queue, execute the request at the head, make a console selection, start the surface
serializer (spec/02 R41; spec/09 R146 R147; spec/07 R119; spec/01 R3; log 1). -/

namespace Sys2Proof.Machine

/-- The surface serializer is Idle and takes the frame at the head of the outbound queue (R3, R133). -/
def surfaceStep (s : State) : Option State :=
  if s.surfaceSending = false ∧ s.outbound ≠ [] then some { s with surfaceSending := true } else none

/-- The first of the steps due at once, in the order of log 1; none while a link break or the reset input holds the block
(R15, R158). -/
def dueStep (s : State) : Option State :=
  if s.holding then none
  else flushStep s <|> slotStep s <|> executeStep s <|> selectStep s <|> surfaceStep s

/-- No step is due. -/
def State.Quiescent (s : State) : Prop := dueStep s = none

/-- At most `n` due steps are taken. -/
def settleWith : Nat → State → State
  | 0, s => s
  | n + 1, s =>
    match dueStep s with
    | some t => settleWith n t
    | none => s

/-- A bound on the due steps: at most three for each request (executed, its flush completed, its reply entered), and
three more (a reply that waits, a selection, a start of the surface serializer). -/
def dueBound (s : State) : Nat := 3 * s.requests.length + 3

/-- Every due step is taken: the end of an event (log 1). -/
def settle (s : State) : State := settleWith (dueBound s) s

/-- An internal step asked for by a command of its own: taken if it is due, no effect otherwise (log 5), and then what
follows from it at once. -/
def internal (f : State → Option State) (s : State) : State :=
  if s.holding then s else settle ((f s).getD s)

end Sys2Proof.Machine
end

