-- ==== Sys2Proof/Machine/Timers.lean ====
section
/-! DEFINITION. The timebase: the tick event, the timers it counts, and the expiries (spec/00 R1; spec/01 R14; spec/02 R33;
spec/04 R69; spec/05 R92; spec/07 R124; log 3). -/

namespace Sys2Proof.Machine

/-- The timer's expiry is due. -/
def Timer.isDue (t : Timer) : Bool := t == some 0

/-- A running timer counts a tick event (R1). -/
def Timer.count : Timer → Timer
  | none => none
  | some n => some (n - 1)

/-! ## Expiries -/

/-- The watchdog of a module expires if it is due (R33). -/
def expireWatchdog (m : ModuleIx) (s : State) : State :=
  if (s.module m).watchdog.isDue ∧ (s.module m).state = .active then settle (watchdogLoss m s) else s

/-- The repeat timer of the element at an index. -/
def Control.repeatTimer : Control → Timer
  | .key _ c => c.timer
  | _ => none

/-- The pace timer of the element at an index. -/
def Control.paceTimer : Control → Timer
  | .level _ c => c.timer
  | _ => none

/-- The repeat timer at an index expires if it is due (R69, R70). -/
def expireRepeat (i : Nat) (s : State) : State :=
  if (s.element i).control.repeatTimer.isDue then settle (repeatExpiry i s) else s

/-- The pace timer at an index expires if it is due (R92). -/
def expirePace (i : Nat) (s : State) : State :=
  if (s.element i).control.paceTimer.isDue then settle (paceExpiry i s) else s

/-- The service timer of a lane expires if it is due (R124). -/
def expireService (l : Fin 8) (s : State) : State :=
  if (s.lane l).timer.isDue then settle (serviceOverdue l s) else s

/-! ## The tick event -/

/-- The modules whose watchdog is due. -/
def State.dueWatchdogs (s : State) : List ModuleIx := allModules.filter fun m => (s.module m).watchdog.isDue
/-- The elements whose repeat timer is due. -/
def State.dueRepeats (s : State) : List Nat := (s.elements.filter fun e => e.2.control.repeatTimer.isDue).map (·.1)
/-- The elements whose pace timer is due. -/
def State.duePaces (s : State) : List Nat := (s.elements.filter fun e => e.2.control.paceTimer.isDue).map (·.1)
/-- The lanes whose service timer is due. -/
def State.dueServices (s : State) : List (Fin 8) := allLanes.filter fun l => (s.lane l).timer.isDue

/-- The expiries still due from the last tick are taken before the next one is counted (R1, log 3). -/
def takeDue (s : State) : State :=
  let s1 := s.dueWatchdogs.foldl (fun t m => expireWatchdog m t) s
  let s2 := s.dueRepeats.foldl (fun t i => expireRepeat i t) s1
  let s3 := s.duePaces.foldl (fun t i => expirePace i t) s2
  s.dueServices.foldl (fun t l => expireService l t) s3

/-- The timers of an element count a tick. -/
def Control.count : Control → Control
  | .key p c => .key p { c with timer := c.timer.count }
  | .level p c => .level p { c with timer := c.timer.count }
  | c => c

/-- Every running timer counts the tick (R1). -/
def countTimers (s : State) : State :=
  (s.mapControls fun _ c => c.count) |> fun s =>
    { s with
      modules := mapAll (fun x => { x with watchdog := x.watchdog.count }) s.modules
      lanes := mapAll (fun x => { x with timer := x.timer.count }) s.lanes }

/-- The break detector at a tick taken with the line at spacing (R14). -/
def detectSpacing (s : State) : State :=
  match s.detector with
  | .clear => { s with consoleRx := .spacing, detector := .spacingSeen }
  | .spacingSeen => breakDetected s
  | .broken => { s with consoleRx := .spacing }

/-- The console receive line is at marking (R14, R16): where that ends a link break, what follows the completed restart at
once follows. -/
def lineReturns (s : State) : State :=
  match s.detector with
  | .broken => settle (lineToMarking s)
  | .clear => lineToMarking s
  | .spacingSeen => lineToMarking s

/-- The tick event (R1, R14). With the line at marking, its return to marking has come first. While the reset input is
asserted no timer runs and the detector is held in Clear (R158). The timers count before the detector takes the tick, so
a timer that runs out at the tick that detects a break does not expire: the model's choice (log 30). -/
def tickEvent (line : Line) (s : State) : State :=
  match line with
  | .marking => if s.powerReset then lineReturns s else countTimers (takeDue (lineReturns s))
  | .spacing => if s.powerReset then { s with consoleRx := .spacing } else detectSpacing (countTimers (takeDue s))

end Sys2Proof.Machine
end

