-- ==== Sys2Proof/Machine/ExpiryCommands.lean ====
section
/-! DEFINITION. The expiries as commands: WATCHDOG_EXPIRY, REPEAT_TIMER_EXPIRY, PACE_TIMER_EXPIRY,
SERVICE_TIMER_EXPIRY. A timer that is not due does not expire (R1, log 4). -/

namespace Sys2Proof.Machine

/-- WATCHDOG_EXPIRY (R33) of the module at an address. -/
def execWatchdogExpiry (addr : BitVec 6) (s : State) : Host.Outcome State Fault Refusal :=
  match moduleOf addr with
  | some m => .next (expireWatchdog m s)
  | none => .next s

/-- REPEAT_TIMER_EXPIRY (R69, R70) of the key at an index. -/
def execRepeatTimerExpiry (index : Nat) (s : State) : Host.Outcome State Fault Refusal := .next (expireRepeat index s)

/-- PACE_TIMER_EXPIRY (R92) of the level element at an index. -/
def execPaceTimerExpiry (index : Nat) (s : State) : Host.Outcome State Fault Refusal := .next (expirePace index s)

/-- SERVICE_TIMER_EXPIRY (R124) of a lane. -/
def execServiceTimerExpiry (lane : Fin 8) (s : State) : Host.Outcome State Fault Refusal :=
  .next (expireService lane s)

end Sys2Proof.Machine
end

