-- ==== Sys2Proof/Machine/InternalCommands.lean ====
section
/-! DEFINITION. The internal steps of the block as commands: AWAITING_SLOT_END, FLUSH_COMPLETE, CONSOLE_SELECTION,
CONSOLE_FRAME_SENT, SURFACE_FRAME_START, SURFACE_FRAME_SENT (log 1, log 5). -/

namespace Sys2Proof.Machine

/-- AWAITING_SLOT_END (R146, R147). -/
def execAwaitingSlotEnd (s : State) : Host.Outcome State Fault Refusal := .next (internal slotStep s)

/-- FLUSH_COMPLETE (R41). -/
def execFlushComplete (s : State) : Host.Outcome State Fault Refusal := .next (internal flushStep s)

/-- CONSOLE_SELECTION (R119, R120). -/
def execConsoleSelection (s : State) : Host.Outcome State Fault Refusal := .next (internal selectStep s)

/-- CONSOLE_FRAME_SENT (R103, R122): the end of the frame in flight, and the selection that follows. -/
def execConsoleFrameSent (s : State) : Host.Outcome State Fault Refusal :=
  .next (if s.consoleTx = none then s else settle (frameSent s))

/-- SURFACE_FRAME_START (R3). -/
def execSurfaceFrameStart (s : State) : Host.Outcome State Fault Refusal := .next (internal surfaceStep s)

/-- The last character of the frame at the head of the outbound queue has left (R133): its entry is freed, the serializer
is Idle, and the owed pass follows (R136). -/
def surfaceSent (s : State) : State := owedPass { s with outbound := s.outbound.tail, surfaceSending := false }

/-- SURFACE_FRAME_SENT (R133, R136); with no frame being sent there is no such event (log 5). -/
def execSurfaceFrameSent (s : State) : Host.Outcome State Fault Refusal :=
  .next (if s.surfaceSending then settle (surfaceSent s) else s)

end Sys2Proof.Machine
end

