-- ==== Sys2Proof/Machine/LineCommands.lean ====
section
/-! DEFINITION. The commands of the timebase and of the lines: TICK, RETURN_TO_MARKING, LINK_BREAK, LINK_BREAK_END,
PAUSE_IN_ASSERT, PAUSE_IN_DEASSERT, POWER_ON_RESET, POWER_ON_RESET_RELEASE. -/

namespace Sys2Proof.Machine

/-- TICK (R1, R14): the tick event, taken with the console receive line at the given level (log 6). -/
def execTick (line : Line) (s : State) : Host.Outcome State Fault Refusal := .next (tickEvent line s)

/-- RETURN_TO_MARKING (R14): the console receive line returns to marking. -/
def execReturnToMarking (s : State) : Host.Outcome State Fault Refusal := .next (lineReturns s)

/-- LINK_BREAK (R14, R15): the detector has seen the line at spacing through two consecutive tick events (log 7). In
Broken it is already detected, and under the reset input the detector is held in Clear. -/
def execLinkBreak (s : State) : Host.Outcome State Fault Refusal :=
  .next (if s.holding then s else breakDetected s)

/-- LINK_BREAK_END (R16): the console receive line returns to marking. -/
def execLinkBreakEnd (s : State) : Host.Outcome State Fault Refusal := .next (lineReturns s)

/-- PAUSE_IN_ASSERT (R12): no further frame is begun; one being sent is sent to its end. -/
def execPauseInAssert (s : State) : Host.Outcome State Fault Refusal := .next { s with pauseIn := true }

/-- PAUSE_IN_DEASSERT (R12, R119): a fresh selection is made. -/
def execPauseInDeassert (s : State) : Host.Outcome State Fault Refusal := .next (settle { s with pauseIn := false })

/-- POWER_ON_RESET (R158): the input is asserted, and a cold restart begins. -/
def execPowerOnReset (s : State) : Host.Outcome State Fault Refusal := .next (powerOnBegins s)

/-- POWER_ON_RESET_RELEASE (R158): the input is deasserted, and the cold restart completes. -/
def execPowerOnResetRelease (s : State) : Host.Outcome State Fault Refusal :=
  .next (if s.powerReset then settle (powerOnEnds s) else s)

end Sys2Proof.Machine
end

