-- ==== Sys2Proof/Machine/Link.lean ====
section
/-! DEFINITION. Frames received: the framers, the check, the header test, the kind fit and the routing of both ports
(spec/01, R5 to R11). -/

namespace Sys2Proof.Machine

/-! ## Routing (R7 to R10) -/

/-- The report entries of an Element Report payload, three bytes each (R17). -/
def entriesOf : List Byte → List ReportEntry
  | e :: v1 :: v0 :: rest => ⟨e, wordOf v1 v0⟩ :: entriesOf rest
  | _ => []

/-- The payload of the report entries (R17). -/
def entryBytes (es : List ReportEntry) : List Byte := (es.map fun x => x.element :: wordBytes x.value).flatten

/-- An Element Report fits its kind (R8): a length that is a multiple of 3 from 3 to 240. -/
def reportFits (p : List Byte) : Bool := p.length % 3 == 0 && 3 ≤ p.length && p.length ≤ Config.maxPayload

/-- A well-formed surface frame of kind 1 or 2 reaches the sweep assembler of an enabled module (R7, R8). -/
def assemble (m : ModuleIx) (f : Frame) (s : State) : State :=
  if f.kind = 1 then
    if reportFits f.payload then takeReport m (entriesOf f.payload) s else s.countFrameError .surface
  else
    match f.payload with
    | [number, count, flags] => takeSweepEnd m number count flags s
    | _ => s.countFrameError .surface

/-- A well-formed surface frame is routed (R7). -/
def routeSurface (f : Frame) (s : State) : State :=
  if f.kind = 1 ∨ f.kind = 2 then
    match moduleOf f.addr with
    | some m => if (s.module m).entry.enabled then assemble m f s else passFrame f s
    | none => s.countMisaddressed
  else passFrame f s

/-- A console frame to address 63 is routed (R9, R10). -/
def routeOwn (f : Frame) (s : State) : State :=
  if f.kind = 8 then
    match f.payload with
    | tag :: code :: args => requestArrives tag code args s
    | _ => s.countFrameError .console
  else if f.kind = 9 then
    match f.payload with
    | [l] =>
      match laneOf l.toNat with
      | some k => serviceDone k s
      | none => s.countFrameError .console
    | _ => s.countFrameError .console
  else s.countMisaddressed

/-- A console frame to an address other than 63 is routed (R9, R10). -/
def routeChain (f : Frame) (s : State) : State :=
  if f.kind = 5 then
    match f.payload with
    | [number, mode] =>
      if number.toNat ≤ 63 ∧ mode.toNat ≤ 3 then mergeIndicator f number mode s else s.countFrameError .console
    | _ => s.countFrameError .console
  else if f.kind = 6 ∧ f.addr = 0 then
    match f.payload with
    | [pace] => if pace.toNat ≤ 1 then mergePace f pace s else s.countFrameError .console
    | _ => s.countFrameError .console
  else mergeFrame f s

/-- A well-formed frame is routed by its port (R7, R9). A payload above 240 bytes has no length byte, and the frame is
malformed (R5). -/
def route (p : Port) (f : Frame) (s : State) : State :=
  if f.payload.length ≤ Config.maxPayload then
    match p with
    | .surface => routeSurface f s
    | .console => if f.addr = 63 then routeOwn f s else routeChain f s
  else s.countFrameError p

/-! ## The framers (R5, R6) -/

/-- The framer of a port. -/
def State.framer (s : State) (p : Port) : Framer :=
  match p with
  | .surface => s.surfaceFramer
  | .console => s.consoleFramer

/-- The framer of a port is set. -/
def State.setFramer (p : Port) (x : Framer) (s : State) : State :=
  match p with
  | .surface => { s with surfaceFramer := x }
  | .console => { s with consoleFramer := x }

/-- A frame is complete (R6): the check, the header test, then the routing. -/
def frameComplete (p : Port) (kind addr len : Byte) (got : List Byte) (s : State) : State :=
  if wordBytes (check (kind :: addr :: len :: got.take len.toNat)) = got.drop len.toNat ∧ kind.toNat < 16 ∧
      addr.toNat < 64 then
    settle (route p ⟨kind.setWidth 4, addr.setWidth 6, got.take len.toNat⟩ s)
  else s.countFrameError p

/-- A start character (R5): a frame being assembled is malformed, and a new frame begins. -/
def startCharacter (p : Port) (b : Byte) (s : State) : State :=
  match s.framer p with
  | .hunting => s.setFramer p (.address b)
  | _ => (s.countFrameError p).setFramer p (.address b)

/-- A character error (R5). -/
def characterError (p : Port) (s : State) : State :=
  match s.framer p with
  | .hunting => s
  | _ => (s.countFrameError p).setFramer p .hunting

/-- A continuation character (R5). -/
def continuation (p : Port) (b : Byte) (s : State) : State :=
  match s.framer p with
  | .hunting => s
  | .address k => s.setFramer p (.length k b)
  | .length k a =>
    if b.toNat ≤ Config.maxPayload then s.setFramer p (.body k a b [])
    else (s.countFrameError p).setFramer p .hunting
  | .body k a l got =>
    if got.length + 1 < l.toNat + 2 then s.setFramer p (.body k a l (got ++ [b]))
    else frameComplete p k a l (got ++ [b]) (s.setFramer p .hunting)

/-- A character event reaches a framer (R5); while a link break or the reset input holds the block, the receive lines are
ignored (R15, R158). -/
def character (p : Port) (e : LineEvent) (s : State) : State :=
  if s.holding then s
  else
    match e with
    | .start b => startCharacter p b s
    | .continuation b => continuation p b s
    | .error => characterError p s

/-! ## Whole frames -/

/-- A partial frame is ended by the start character of another (R5): malformed, and counted. -/
def endPartial (p : Port) (s : State) : State :=
  match s.framer p with
  | .hunting => s
  | _ => (s.countFrameError p).setFramer p .hunting

/-- A whole well-formed frame arrives on a port (log 8): it ends a partial frame the framer holds, completes, and is
routed. -/
def frameArrives (p : Port) (f : Frame) (s : State) : State :=
  if s.holding then s else settle (route p f (endPartial p s))

/-- A malformed frame on a port is discarded and counted once (R6); if the framer holds a partial frame, it is that one
that ended early. -/
def malformed (p : Port) (s : State) : State :=
  if s.holding then s else (s.countFrameError p).setFramer p .hunting

end Sys2Proof.Machine
end

