-- ==== Sys2Proof/Machine/FrameCommands.lean ====
section
/-! DEFINITION. The commands that are frames and characters: ELEMENT_REPORT, SWEEP_END, PASS_THROUGH, MALFORMED_FRAME,
MISADDRESSED, REQUEST, SERVICE_DONE, INDICATOR, PACE, FORWARDED_FRAME, CHARACTER_EVENT. Each frame goes where R7 or R9
sends it (log 9). -/

namespace Sys2Proof.Machine

/-- A Request frame addressed 63 arrives (R9, R10, R145). -/
def requestFrame (tag code : Byte) (args : List Byte) (s : State) : State :=
  frameArrives .console ⟨8, 63, tag :: code :: args⟩ s

/-- ELEMENT_REPORT (R22). -/
def execElementReport (addr : BitVec 6) (entries : List ReportEntry) (s : State) : Host.Outcome State Fault Refusal :=
  .next (frameArrives .surface ⟨1, addr, entryBytes entries⟩ s)

/-- SWEEP_END (R25, R27, R29). -/
def execSweepEnd (addr : BitVec 6) (number count flags : Byte) (s : State) : Host.Outcome State Fault Refusal :=
  .next (frameArrives .surface ⟨2, addr, [number, count, flags]⟩ s)

/-- PASS_THROUGH (R130). -/
def execPassThrough (frame : Frame) (s : State) : Host.Outcome State Fault Refusal :=
  .next (frameArrives .surface frame s)

/-- MALFORMED_FRAME (R6). -/
def execMalformedFrame (port : Port) (s : State) : Host.Outcome State Fault Refusal := .next (malformed port s)

/-- MISADDRESSED (R7, R9, R11). -/
def execMisaddressed (port : Port) (frame : Frame) (s : State) : Host.Outcome State Fault Refusal :=
  .next (frameArrives port frame s)

/-- REQUEST (R145). -/
def execRequest (tag code : Byte) (args : List Byte) (s : State) : Host.Outcome State Fault Refusal :=
  .next (requestFrame tag code args s)

/-- SERVICE_DONE (R125). -/
def execServiceDone (lane : Byte) (s : State) : Host.Outcome State Fault Refusal :=
  .next (frameArrives .console ⟨9, 63, [lane]⟩ s)

/-- INDICATOR (R134, R137). -/
def execIndicator (addr : BitVec 6) (number mode : Byte) (s : State) : Host.Outcome State Fault Refusal :=
  .next (frameArrives .console ⟨5, addr, [number, mode]⟩ s)

/-- PACE (R134, R139), to address 0. -/
def execPace (pace : Byte) (s : State) : Host.Outcome State Fault Refusal :=
  .next (frameArrives .console ⟨6, 0, [pace]⟩ s)

/-- FORWARDED_FRAME (R134). -/
def execForwardedFrame (frame : Frame) (s : State) : Host.Outcome State Fault Refusal :=
  .next (frameArrives .console frame s)

/-- CHARACTER_EVENT (R5). -/
def execCharacterEvent (port : Port) (event : LineEvent) (s : State) : Host.Outcome State Fault Refusal :=
  .next (character port event s)

end Sys2Proof.Machine
end

