-- ==== Sys2Proof/Machine/RequestCommands.lean ====
section
/-! DEFINITION. The commands that are requests (R18): each is the Request frame of its code, executed as R146 says, at
once if nothing stands ahead of it (log 10). -/

namespace Sys2Proof.Machine

/-- READ_STATUS (R149). -/
def execReadStatus (tag : Byte) (s : State) : Host.Outcome State Fault Refusal := .next (requestFrame tag 1 [] s)

/-- READ_SETTINGS (R150). -/
def execReadSettings (tag : Byte) (s : State) : Host.Outcome State Fault Refusal := .next (requestFrame tag 2 [] s)

/-- WRITE_SETTINGS (R150). -/
def execWriteSettings (tag : Byte) (brisk slow : Word) (quiet ceiling burst : Byte) (s : State) :
    Host.Outcome State Fault Refusal :=
  .next (requestFrame tag 3 (wordBytes brisk ++ wordBytes slow ++ [quiet, ceiling, burst]) s)

/-- READ_MODULE (R151). -/
def execReadModule (tag addr : Byte) (s : State) : Host.Outcome State Fault Refusal :=
  .next (requestFrame tag 4 [addr] s)

/-- WRITE_MODULE (R35, R151). -/
def execWriteModule (tag addr enabled : Byte) (base : Word) (count : Byte) (s : State) :
    Host.Outcome State Fault Refusal :=
  .next (requestFrame tag 5 ([addr, enabled] ++ wordBytes base ++ [count]) s)

/-- READ_ELEMENT (R58). -/
def execReadElement (tag : Byte) (index : Word) (s : State) : Host.Outcome State Fault Refusal :=
  .next (requestFrame tag 6 (wordBytes index) s)

/-- WRITE_ELEMENT (R52). -/
def execWriteElement (tag : Byte) (index : Word) (cls lane : Byte) (params : List Byte) (s : State) :
    Host.Outcome State Fault Refusal :=
  .next (requestFrame tag 7 (wordBytes index ++ [cls, lane] ++ params) s)

/-- READ_LANE (R153). -/
def execReadLane (tag lane : Byte) (s : State) : Host.Outcome State Fault Refusal :=
  .next (requestFrame tag 8 [lane] s)

/-- WRITE_LANE (R153, R128). -/
def execWriteLane (tag lane priority masked mode urgent quota : Byte) (limit : Word) (s : State) :
    Host.Outcome State Fault Refusal :=
  .next (requestFrame tag 9 ([lane, priority, masked, mode, urgent, quota] ++ wordBytes limit) s)

/-- READ_PROFILE (R154). -/
def execReadProfile (tag profile : Byte) (s : State) : Host.Outcome State Fault Refusal :=
  .next (requestFrame tag 10 [profile] s)

/-- WRITE_PROFILE (R154). -/
def execWriteProfile (tag profile : Byte) (delay interval : Word) (limit : Byte) (s : State) :
    Host.Outcome State Fault Refusal :=
  .next (requestFrame tag 11 ([profile] ++ wordBytes delay ++ wordBytes interval ++ [limit]) s)

/-- READ_COUNTERS (R155). -/
def execReadCounters (tag clear : Byte) (s : State) : Host.Outcome State Fault Refusal :=
  .next (requestFrame tag 12 [clear] s)

/-- COLD_REQUEST (R156): a Restart request of form Cold. -/
def execColdRequest (tag : Byte) (s : State) : Host.Outcome State Fault Refusal := .next (requestFrame tag 13 [0] s)

/-- WARM_REQUEST (R156): a Restart request of form Warm. -/
def execWarmRequest (tag : Byte) (s : State) : Host.Outcome State Fault Refusal := .next (requestFrame tag 13 [1] s)

/-- CAPTURE_CONTROL (R165). -/
def execCaptureControl (tag enabled filter clear : Byte) (s : State) : Host.Outcome State Fault Refusal :=
  .next (requestFrame tag 14 [enabled, filter, clear] s)

/-- CAPTURE_READ (R166). -/
def execCaptureRead (tag count : Byte) (s : State) : Host.Outcome State Fault Refusal :=
  .next (requestFrame tag 15 [count] s)

end Sys2Proof.Machine
end

