-- ==== Sys2Proof/Machine/Dispatch.lean ====
section
/-! DEFINITION. The meaning of each command, one arm per constructor of `Instr`. -/

namespace Sys2Proof.Machine

def exec (i : Instr) (s : State) : Host.Outcome State Fault Refusal :=
  match i with
  | .tick line => Sys2Proof.Machine.execTick line s
  | .elementReport addr entries => Sys2Proof.Machine.execElementReport addr entries s
  | .sweepEnd addr number count flags => Sys2Proof.Machine.execSweepEnd addr number count flags s
  | .passThrough frame => Sys2Proof.Machine.execPassThrough frame s
  | .malformedFrame port => Sys2Proof.Machine.execMalformedFrame port s
  | .misaddressed port frame => Sys2Proof.Machine.execMisaddressed port frame s
  | .request tag code args => Sys2Proof.Machine.execRequest tag code args s
  | .serviceDone lane => Sys2Proof.Machine.execServiceDone lane s
  | .indicator addr number mode => Sys2Proof.Machine.execIndicator addr number mode s
  | .pace pace => Sys2Proof.Machine.execPace pace s
  | .forwardedFrame frame => Sys2Proof.Machine.execForwardedFrame frame s
  | .readStatus tag => Sys2Proof.Machine.execReadStatus tag s
  | .readSettings tag => Sys2Proof.Machine.execReadSettings tag s
  | .writeSettings tag brisk slow quiet ceiling burst => Sys2Proof.Machine.execWriteSettings tag brisk slow quiet ceiling burst s
  | .readModule tag addr => Sys2Proof.Machine.execReadModule tag addr s
  | .writeModule tag addr enabled base count => Sys2Proof.Machine.execWriteModule tag addr enabled base count s
  | .readElement tag index => Sys2Proof.Machine.execReadElement tag index s
  | .writeElement tag index cls lane params => Sys2Proof.Machine.execWriteElement tag index cls lane params s
  | .readLane tag lane => Sys2Proof.Machine.execReadLane tag lane s
  | .writeLane tag lane priority masked mode urgent quota limit => Sys2Proof.Machine.execWriteLane tag lane priority masked mode urgent quota limit s
  | .readProfile tag profile => Sys2Proof.Machine.execReadProfile tag profile s
  | .writeProfile tag profile delay interval limit => Sys2Proof.Machine.execWriteProfile tag profile delay interval limit s
  | .readCounters tag clear => Sys2Proof.Machine.execReadCounters tag clear s
  | .coldRequest tag => Sys2Proof.Machine.execColdRequest tag s
  | .warmRequest tag => Sys2Proof.Machine.execWarmRequest tag s
  | .captureControl tag enabled filter clear => Sys2Proof.Machine.execCaptureControl tag enabled filter clear s
  | .captureRead tag count => Sys2Proof.Machine.execCaptureRead tag count s
  | .awaitingSlotEnd => Sys2Proof.Machine.execAwaitingSlotEnd s
  | .flushComplete => Sys2Proof.Machine.execFlushComplete s
  | .consoleSelection => Sys2Proof.Machine.execConsoleSelection s
  | .consoleFrameSent => Sys2Proof.Machine.execConsoleFrameSent s
  | .surfaceFrameStart => Sys2Proof.Machine.execSurfaceFrameStart s
  | .surfaceFrameSent => Sys2Proof.Machine.execSurfaceFrameSent s
  | .pauseInAssert => Sys2Proof.Machine.execPauseInAssert s
  | .pauseInDeassert => Sys2Proof.Machine.execPauseInDeassert s
  | .linkBreak => Sys2Proof.Machine.execLinkBreak s
  | .linkBreakEnd => Sys2Proof.Machine.execLinkBreakEnd s
  | .powerOnReset => Sys2Proof.Machine.execPowerOnReset s
  | .powerOnResetRelease => Sys2Proof.Machine.execPowerOnResetRelease s
  | .watchdogExpiry addr => Sys2Proof.Machine.execWatchdogExpiry addr s
  | .repeatTimerExpiry index => Sys2Proof.Machine.execRepeatTimerExpiry index s
  | .paceTimerExpiry index => Sys2Proof.Machine.execPaceTimerExpiry index s
  | .serviceTimerExpiry lane => Sys2Proof.Machine.execServiceTimerExpiry lane s
  | .returnToMarking => Sys2Proof.Machine.execReturnToMarking s
  | .characterEvent port event => Sys2Proof.Machine.execCharacterEvent port event s

end Sys2Proof.Machine
end

