-- ==== Sys2Proof/Laws/Bytes.lean ====
section
/-! SUPPORT. Bytes and 16-bit quantities: what is split is what is put together (R17); the parameter parts that are taken. -/

namespace Sys2Proof.Machine

theorem wordOf_toNat (a b : Byte) : (wordOf a b).toNat = 256 * a.toNat + b.toNat := by
  unfold wordOf
  rw [BitVec.toNat_append, ← Nat.shiftLeft_add_eq_or_of_lt b.isLt, Nat.shiftLeft_eq]
  omega

theorem hiByte_toNat (w : Word) : (hiByte w).toNat = w.toNat / 256 := by
  have := w.isLt
  simp only [hiByte, BitVec.toNat_setWidth, BitVec.toNat_ushiftRight, Nat.shiftRight_eq_div_pow]
  omega

theorem loByte_toNat (w : Word) : (loByte w).toNat = w.toNat % 256 := by
  simp only [loByte, BitVec.toNat_setWidth]

/-- A 16-bit quantity is put together from its two bytes. -/
@[simp] theorem wordOf_hiByte_loByte (w : Word) : wordOf (hiByte w) (loByte w) = w := by
  apply BitVec.eq_of_toNat_eq
  rw [wordOf_toNat, hiByte_toNat, loByte_toNat]
  omega

@[simp] theorem hiByte_wordOf (a b : Byte) : hiByte (wordOf a b) = a := by
  apply BitVec.eq_of_toNat_eq
  rw [hiByte_toNat, wordOf_toNat]
  omega

@[simp] theorem loByte_wordOf (a b : Byte) : loByte (wordOf a b) = b := by
  apply BitVec.eq_of_toNat_eq
  rw [loByte_toNat, wordOf_toNat]
  omega

/-- The two bytes of a number, high byte first. -/
theorem natBytes_eq (n : Nat) : natBytes n = [BitVec.ofNat 8 (n / 256), BitVec.ofNat 8 n] := by
  simp only [natBytes, wordBytes, hiByte, loByte, List.cons.injEq, and_true]
  constructor <;> apply BitVec.eq_of_toNat_eq
  · simp only [BitVec.toNat_setWidth, BitVec.toNat_ushiftRight, BitVec.toNat_ofNat, Nat.shiftRight_eq_div_pow]
    omega
  · simp only [BitVec.toNat_setWidth, BitVec.toNat_ofNat]
    omega

/-- The bytes of a 16-bit quantity are the bytes of its number. -/
theorem natBytes_toNat (w : Word) : natBytes w.toNat = wordBytes w := by
  simp [natBytes]

/-- What a parameter part that is taken is (R45, R52): that of its class, with every field in range. -/
theorem controlOf_cases {n : Nat} {ps : List Byte} {c : Control} (h : controlOf n ps = some c) :
    (n = 0 ∧ ps = [] ∧ c = .ignore) ∨ (n = 4 ∧ ps = [] ∧ c = .raw none) ∨
    (∃ down up mode profile echo echoMode p, n = 1 ∧ ps = [down, up, mode, profile, echo, echoMode] ∧
      keyParamsOf down up mode profile echo echoMode = some p ∧ c = .key p .idle) ∨
    (∃ resolution invert limit threshold factor p, n = 2 ∧ ps = [resolution, invert, limit, threshold, factor] ∧
      encoderParamsOf resolution invert limit threshold factor = some p ∧ c = .encoder p .idle) ∨
    (∃ deadband p1 p0 l1 l0 h1 h0 zones p, n = 3 ∧ ps = [deadband, p1, p0, l1, l0, h1, h0, zones] ∧
      levelParamsOf deadband (wordOf p1 p0) (wordOf l1 l0) (wordOf h1 h0) zones = some p ∧ c = .level p .idle) := by
  match n, ps, h with
  | 0, [], h => cases h; exact .inl ⟨rfl, rfl, rfl⟩
  | 4, [], h => cases h; exact .inr (.inl ⟨rfl, rfl, rfl⟩)
  | 1, [_, _, _, _, _, _], h =>
    obtain ⟨p, hp, rfl⟩ := Option.map_eq_some_iff.mp (show Option.map (fun p => Control.key p .idle) _ = some c from h)
    exact .inr (.inr (.inl ⟨_, _, _, _, _, _, p, rfl, rfl, hp, rfl⟩))
  | 2, [_, _, _, _, _], h =>
    obtain ⟨p, hp, rfl⟩ := Option.map_eq_some_iff.mp (show Option.map (fun p => Control.encoder p .idle) _ = some c from h)
    exact .inr (.inr (.inr (.inl ⟨_, _, _, _, _, p, rfl, rfl, hp, rfl⟩)))
  | 3, [_, _, _, _, _, _, _, _], h =>
    obtain ⟨p, hp, rfl⟩ := Option.map_eq_some_iff.mp (show Option.map (fun p => Control.level p .idle) _ = some c from h)
    exact .inr (.inr (.inr (.inr ⟨_, _, _, _, _, _, _, _, p, rfl, rfl, hp, rfl⟩)))

end Sys2Proof.Machine
end

