-- ==== Sys2Proof/Laws/State.lean ====
section
/-! SUPPORT. One lemma for each field of the state and each update of it, so that no proof unfolds a record update. -/

namespace Sys2Proof.Machine

@[simp] theorem State.setLane_settings (s : State) (l : Fin 8) (x : Lane) :
    (s.setLane l x).settings = s.settings := rfl
@[simp] theorem State.setLane_profiles (s : State) (l : Fin 8) (x : Lane) :
    (s.setLane l x).profiles = s.profiles := rfl
@[simp] theorem State.setLane_lanes (s : State) (l : Fin 8) (x : Lane) :
    (s.setLane l x).lanes = s.lanes.set l x := rfl
@[simp] theorem State.setLane_modules (s : State) (l : Fin 8) (x : Lane) : (s.setLane l x).modules = s.modules := rfl
@[simp] theorem State.setLane_elements (s : State) (l : Fin 8) (x : Lane) :
    (s.setLane l x).elements = s.elements := rfl
@[simp] theorem State.setLane_surfaceFramer (s : State) (l : Fin 8) (x : Lane) :
    (s.setLane l x).surfaceFramer = s.surfaceFramer := rfl
@[simp] theorem State.setLane_consoleFramer (s : State) (l : Fin 8) (x : Lane) :
    (s.setLane l x).consoleFramer = s.consoleFramer := rfl
@[simp] theorem State.setLane_counters (s : State) (l : Fin 8) (x : Lane) :
    (s.setLane l x).counters = s.counters := rfl
@[simp] theorem State.setLane_pauseIn (s : State) (l : Fin 8) (x : Lane) : (s.setLane l x).pauseIn = s.pauseIn := rfl
@[simp] theorem State.setLane_consoleRx (s : State) (l : Fin 8) (x : Lane) :
    (s.setLane l x).consoleRx = s.consoleRx := rfl
@[simp] theorem State.setLane_detector (s : State) (l : Fin 8) (x : Lane) :
    (s.setLane l x).detector = s.detector := rfl
@[simp] theorem State.setLane_powerReset (s : State) (l : Fin 8) (x : Lane) :
    (s.setLane l x).powerReset = s.powerReset := rfl
@[simp] theorem State.setLane_consoleTx (s : State) (l : Fin 8) (x : Lane) :
    (s.setLane l x).consoleTx = s.consoleTx := rfl
@[simp] theorem State.setLane_burst (s : State) (l : Fin 8) (x : Lane) : (s.setLane l x).burst = s.burst := rfl
@[simp] theorem State.setLane_passQueue (s : State) (l : Fin 8) (x : Lane) :
    (s.setLane l x).passQueue = s.passQueue := rfl
@[simp] theorem State.setLane_systemLost (s : State) (l : Fin 8) (x : Lane) :
    (s.setLane l x).systemLost = s.systemLost := rfl
@[simp] theorem State.setLane_stack (s : State) (l : Fin 8) (x : Lane) : (s.setLane l x).stack = s.stack := rfl
@[simp] theorem State.setLane_outbound (s : State) (l : Fin 8) (x : Lane) :
    (s.setLane l x).outbound = s.outbound := rfl
@[simp] theorem State.setLane_surfaceSending (s : State) (l : Fin 8) (x : Lane) :
    (s.setLane l x).surfaceSending = s.surfaceSending := rfl
@[simp] theorem State.setLane_chainPace (s : State) (l : Fin 8) (x : Lane) :
    (s.setLane l x).chainPace = s.chainPace := rfl
@[simp] theorem State.setLane_paceOwed (s : State) (l : Fin 8) (x : Lane) :
    (s.setLane l x).paceOwed = s.paceOwed := rfl
@[simp] theorem State.setLane_requests (s : State) (l : Fin 8) (x : Lane) :
    (s.setLane l x).requests = s.requests := rfl
@[simp] theorem State.setLane_head (s : State) (l : Fin 8) (x : Lane) : (s.setLane l x).head = s.head := rfl
@[simp] theorem State.setLane_replies (s : State) (l : Fin 8) (x : Lane) : (s.setLane l x).replies = s.replies := rfl
@[simp] theorem State.setLane_resetCause (s : State) (l : Fin 8) (x : Lane) :
    (s.setLane l x).resetCause = s.resetCause := rfl
@[simp] theorem State.setLane_capture (s : State) (l : Fin 8) (x : Lane) : (s.setLane l x).capture = s.capture := rfl
@[simp] theorem State.setLane_pending (s : State) (l : Fin 8) (x : Lane) : (s.setLane l x).pending = s.pending := rfl

@[simp] theorem State.setModule_settings (s : State) (m : ModuleIx) (x : Module) :
    (s.setModule m x).settings = s.settings := rfl
@[simp] theorem State.setModule_profiles (s : State) (m : ModuleIx) (x : Module) :
    (s.setModule m x).profiles = s.profiles := rfl
@[simp] theorem State.setModule_lanes (s : State) (m : ModuleIx) (x : Module) :
    (s.setModule m x).lanes = s.lanes := rfl
@[simp] theorem State.setModule_modules (s : State) (m : ModuleIx) (x : Module) :
    (s.setModule m x).modules = s.modules.set m x := rfl
@[simp] theorem State.setModule_elements (s : State) (m : ModuleIx) (x : Module) :
    (s.setModule m x).elements = s.elements := rfl
@[simp] theorem State.setModule_surfaceFramer (s : State) (m : ModuleIx) (x : Module) :
    (s.setModule m x).surfaceFramer = s.surfaceFramer := rfl
@[simp] theorem State.setModule_consoleFramer (s : State) (m : ModuleIx) (x : Module) :
    (s.setModule m x).consoleFramer = s.consoleFramer := rfl
@[simp] theorem State.setModule_counters (s : State) (m : ModuleIx) (x : Module) :
    (s.setModule m x).counters = s.counters := rfl
@[simp] theorem State.setModule_pauseIn (s : State) (m : ModuleIx) (x : Module) :
    (s.setModule m x).pauseIn = s.pauseIn := rfl
@[simp] theorem State.setModule_consoleRx (s : State) (m : ModuleIx) (x : Module) :
    (s.setModule m x).consoleRx = s.consoleRx := rfl
@[simp] theorem State.setModule_detector (s : State) (m : ModuleIx) (x : Module) :
    (s.setModule m x).detector = s.detector := rfl
@[simp] theorem State.setModule_powerReset (s : State) (m : ModuleIx) (x : Module) :
    (s.setModule m x).powerReset = s.powerReset := rfl
@[simp] theorem State.setModule_consoleTx (s : State) (m : ModuleIx) (x : Module) :
    (s.setModule m x).consoleTx = s.consoleTx := rfl
@[simp] theorem State.setModule_burst (s : State) (m : ModuleIx) (x : Module) :
    (s.setModule m x).burst = s.burst := rfl
@[simp] theorem State.setModule_passQueue (s : State) (m : ModuleIx) (x : Module) :
    (s.setModule m x).passQueue = s.passQueue := rfl
@[simp] theorem State.setModule_systemLost (s : State) (m : ModuleIx) (x : Module) :
    (s.setModule m x).systemLost = s.systemLost := rfl
@[simp] theorem State.setModule_stack (s : State) (m : ModuleIx) (x : Module) :
    (s.setModule m x).stack = s.stack := rfl
@[simp] theorem State.setModule_outbound (s : State) (m : ModuleIx) (x : Module) :
    (s.setModule m x).outbound = s.outbound := rfl
@[simp] theorem State.setModule_surfaceSending (s : State) (m : ModuleIx) (x : Module) :
    (s.setModule m x).surfaceSending = s.surfaceSending := rfl
@[simp] theorem State.setModule_chainPace (s : State) (m : ModuleIx) (x : Module) :
    (s.setModule m x).chainPace = s.chainPace := rfl
@[simp] theorem State.setModule_paceOwed (s : State) (m : ModuleIx) (x : Module) :
    (s.setModule m x).paceOwed = s.paceOwed := rfl
@[simp] theorem State.setModule_requests (s : State) (m : ModuleIx) (x : Module) :
    (s.setModule m x).requests = s.requests := rfl
@[simp] theorem State.setModule_head (s : State) (m : ModuleIx) (x : Module) : (s.setModule m x).head = s.head := rfl
@[simp] theorem State.setModule_replies (s : State) (m : ModuleIx) (x : Module) :
    (s.setModule m x).replies = s.replies := rfl
@[simp] theorem State.setModule_resetCause (s : State) (m : ModuleIx) (x : Module) :
    (s.setModule m x).resetCause = s.resetCause := rfl
@[simp] theorem State.setModule_capture (s : State) (m : ModuleIx) (x : Module) :
    (s.setModule m x).capture = s.capture := rfl
@[simp] theorem State.setModule_pending (s : State) (m : ModuleIx) (x : Module) :
    (s.setModule m x).pending = s.pending := rfl

@[simp] theorem State.setElement_settings (s : State) (i : Nat) (e : Element) :
    (s.setElement i e).settings = s.settings := rfl
@[simp] theorem State.setElement_profiles (s : State) (i : Nat) (e : Element) :
    (s.setElement i e).profiles = s.profiles := rfl
@[simp] theorem State.setElement_lanes (s : State) (i : Nat) (e : Element) : (s.setElement i e).lanes = s.lanes := rfl
@[simp] theorem State.setElement_modules (s : State) (i : Nat) (e : Element) :
    (s.setElement i e).modules = s.modules := rfl
@[simp] theorem State.setElement_elements (s : State) (i : Nat) (e : Element) :
    (s.setElement i e).elements = Table.put .cold i e s.elements := rfl
@[simp] theorem State.setElement_surfaceFramer (s : State) (i : Nat) (e : Element) :
    (s.setElement i e).surfaceFramer = s.surfaceFramer := rfl
@[simp] theorem State.setElement_consoleFramer (s : State) (i : Nat) (e : Element) :
    (s.setElement i e).consoleFramer = s.consoleFramer := rfl
@[simp] theorem State.setElement_counters (s : State) (i : Nat) (e : Element) :
    (s.setElement i e).counters = s.counters := rfl
@[simp] theorem State.setElement_pauseIn (s : State) (i : Nat) (e : Element) :
    (s.setElement i e).pauseIn = s.pauseIn := rfl
@[simp] theorem State.setElement_consoleRx (s : State) (i : Nat) (e : Element) :
    (s.setElement i e).consoleRx = s.consoleRx := rfl
@[simp] theorem State.setElement_detector (s : State) (i : Nat) (e : Element) :
    (s.setElement i e).detector = s.detector := rfl
@[simp] theorem State.setElement_powerReset (s : State) (i : Nat) (e : Element) :
    (s.setElement i e).powerReset = s.powerReset := rfl
@[simp] theorem State.setElement_consoleTx (s : State) (i : Nat) (e : Element) :
    (s.setElement i e).consoleTx = s.consoleTx := rfl
@[simp] theorem State.setElement_burst (s : State) (i : Nat) (e : Element) : (s.setElement i e).burst = s.burst := rfl
@[simp] theorem State.setElement_passQueue (s : State) (i : Nat) (e : Element) :
    (s.setElement i e).passQueue = s.passQueue := rfl
@[simp] theorem State.setElement_systemLost (s : State) (i : Nat) (e : Element) :
    (s.setElement i e).systemLost = s.systemLost := rfl
@[simp] theorem State.setElement_stack (s : State) (i : Nat) (e : Element) : (s.setElement i e).stack = s.stack := rfl
@[simp] theorem State.setElement_outbound (s : State) (i : Nat) (e : Element) :
    (s.setElement i e).outbound = s.outbound := rfl
@[simp] theorem State.setElement_surfaceSending (s : State) (i : Nat) (e : Element) :
    (s.setElement i e).surfaceSending = s.surfaceSending := rfl
@[simp] theorem State.setElement_chainPace (s : State) (i : Nat) (e : Element) :
    (s.setElement i e).chainPace = s.chainPace := rfl
@[simp] theorem State.setElement_paceOwed (s : State) (i : Nat) (e : Element) :
    (s.setElement i e).paceOwed = s.paceOwed := rfl
@[simp] theorem State.setElement_requests (s : State) (i : Nat) (e : Element) :
    (s.setElement i e).requests = s.requests := rfl
@[simp] theorem State.setElement_head (s : State) (i : Nat) (e : Element) : (s.setElement i e).head = s.head := rfl
@[simp] theorem State.setElement_replies (s : State) (i : Nat) (e : Element) :
    (s.setElement i e).replies = s.replies := rfl
@[simp] theorem State.setElement_resetCause (s : State) (i : Nat) (e : Element) :
    (s.setElement i e).resetCause = s.resetCause := rfl
@[simp] theorem State.setElement_capture (s : State) (i : Nat) (e : Element) :
    (s.setElement i e).capture = s.capture := rfl
@[simp] theorem State.setElement_pending (s : State) (i : Nat) (e : Element) :
    (s.setElement i e).pending = s.pending := rfl

@[simp] theorem State.setControl_settings (s : State) (i : Nat) (c : Control) :
    (s.setControl i c).settings = s.settings := rfl
@[simp] theorem State.setControl_profiles (s : State) (i : Nat) (c : Control) :
    (s.setControl i c).profiles = s.profiles := rfl
@[simp] theorem State.setControl_lanes (s : State) (i : Nat) (c : Control) : (s.setControl i c).lanes = s.lanes := rfl
@[simp] theorem State.setControl_modules (s : State) (i : Nat) (c : Control) :
    (s.setControl i c).modules = s.modules := rfl
@[simp] theorem State.setControl_elements (s : State) (i : Nat) (c : Control) :
    (s.setControl i c).elements = Table.put .cold i { s.element i with control := c } s.elements := rfl
@[simp] theorem State.setControl_surfaceFramer (s : State) (i : Nat) (c : Control) :
    (s.setControl i c).surfaceFramer = s.surfaceFramer := rfl
@[simp] theorem State.setControl_consoleFramer (s : State) (i : Nat) (c : Control) :
    (s.setControl i c).consoleFramer = s.consoleFramer := rfl
@[simp] theorem State.setControl_counters (s : State) (i : Nat) (c : Control) :
    (s.setControl i c).counters = s.counters := rfl
@[simp] theorem State.setControl_pauseIn (s : State) (i : Nat) (c : Control) :
    (s.setControl i c).pauseIn = s.pauseIn := rfl
@[simp] theorem State.setControl_consoleRx (s : State) (i : Nat) (c : Control) :
    (s.setControl i c).consoleRx = s.consoleRx := rfl
@[simp] theorem State.setControl_detector (s : State) (i : Nat) (c : Control) :
    (s.setControl i c).detector = s.detector := rfl
@[simp] theorem State.setControl_powerReset (s : State) (i : Nat) (c : Control) :
    (s.setControl i c).powerReset = s.powerReset := rfl
@[simp] theorem State.setControl_consoleTx (s : State) (i : Nat) (c : Control) :
    (s.setControl i c).consoleTx = s.consoleTx := rfl
@[simp] theorem State.setControl_burst (s : State) (i : Nat) (c : Control) : (s.setControl i c).burst = s.burst := rfl
@[simp] theorem State.setControl_passQueue (s : State) (i : Nat) (c : Control) :
    (s.setControl i c).passQueue = s.passQueue := rfl
@[simp] theorem State.setControl_systemLost (s : State) (i : Nat) (c : Control) :
    (s.setControl i c).systemLost = s.systemLost := rfl
@[simp] theorem State.setControl_stack (s : State) (i : Nat) (c : Control) : (s.setControl i c).stack = s.stack := rfl
@[simp] theorem State.setControl_outbound (s : State) (i : Nat) (c : Control) :
    (s.setControl i c).outbound = s.outbound := rfl
@[simp] theorem State.setControl_surfaceSending (s : State) (i : Nat) (c : Control) :
    (s.setControl i c).surfaceSending = s.surfaceSending := rfl
@[simp] theorem State.setControl_chainPace (s : State) (i : Nat) (c : Control) :
    (s.setControl i c).chainPace = s.chainPace := rfl
@[simp] theorem State.setControl_paceOwed (s : State) (i : Nat) (c : Control) :
    (s.setControl i c).paceOwed = s.paceOwed := rfl
@[simp] theorem State.setControl_requests (s : State) (i : Nat) (c : Control) :
    (s.setControl i c).requests = s.requests := rfl
@[simp] theorem State.setControl_head (s : State) (i : Nat) (c : Control) : (s.setControl i c).head = s.head := rfl
@[simp] theorem State.setControl_replies (s : State) (i : Nat) (c : Control) :
    (s.setControl i c).replies = s.replies := rfl
@[simp] theorem State.setControl_resetCause (s : State) (i : Nat) (c : Control) :
    (s.setControl i c).resetCause = s.resetCause := rfl
@[simp] theorem State.setControl_capture (s : State) (i : Nat) (c : Control) :
    (s.setControl i c).capture = s.capture := rfl
@[simp] theorem State.setControl_pending (s : State) (i : Nat) (c : Control) :
    (s.setControl i c).pending = s.pending := rfl

@[simp] theorem State.mapControls_settings (s : State) (f : Nat → Control → Control) :
    (s.mapControls f).settings = s.settings := rfl
@[simp] theorem State.mapControls_profiles (s : State) (f : Nat → Control → Control) :
    (s.mapControls f).profiles = s.profiles := rfl
@[simp] theorem State.mapControls_lanes (s : State) (f : Nat → Control → Control) :
    (s.mapControls f).lanes = s.lanes := rfl
@[simp] theorem State.mapControls_modules (s : State) (f : Nat → Control → Control) :
    (s.mapControls f).modules = s.modules := rfl
@[simp] theorem State.mapControls_elements (s : State) (f : Nat → Control → Control) :
    (s.mapControls f).elements = s.elements.map fun p => (p.1, { p.2 with control := f p.1 p.2.control }) := rfl
@[simp] theorem State.mapControls_surfaceFramer (s : State) (f : Nat → Control → Control) :
    (s.mapControls f).surfaceFramer = s.surfaceFramer := rfl
@[simp] theorem State.mapControls_consoleFramer (s : State) (f : Nat → Control → Control) :
    (s.mapControls f).consoleFramer = s.consoleFramer := rfl
@[simp] theorem State.mapControls_counters (s : State) (f : Nat → Control → Control) :
    (s.mapControls f).counters = s.counters := rfl
@[simp] theorem State.mapControls_pauseIn (s : State) (f : Nat → Control → Control) :
    (s.mapControls f).pauseIn = s.pauseIn := rfl
@[simp] theorem State.mapControls_consoleRx (s : State) (f : Nat → Control → Control) :
    (s.mapControls f).consoleRx = s.consoleRx := rfl
@[simp] theorem State.mapControls_detector (s : State) (f : Nat → Control → Control) :
    (s.mapControls f).detector = s.detector := rfl
@[simp] theorem State.mapControls_powerReset (s : State) (f : Nat → Control → Control) :
    (s.mapControls f).powerReset = s.powerReset := rfl
@[simp] theorem State.mapControls_consoleTx (s : State) (f : Nat → Control → Control) :
    (s.mapControls f).consoleTx = s.consoleTx := rfl
@[simp] theorem State.mapControls_burst (s : State) (f : Nat → Control → Control) :
    (s.mapControls f).burst = s.burst := rfl
@[simp] theorem State.mapControls_passQueue (s : State) (f : Nat → Control → Control) :
    (s.mapControls f).passQueue = s.passQueue := rfl
@[simp] theorem State.mapControls_systemLost (s : State) (f : Nat → Control → Control) :
    (s.mapControls f).systemLost = s.systemLost := rfl
@[simp] theorem State.mapControls_stack (s : State) (f : Nat → Control → Control) :
    (s.mapControls f).stack = s.stack := rfl
@[simp] theorem State.mapControls_outbound (s : State) (f : Nat → Control → Control) :
    (s.mapControls f).outbound = s.outbound := rfl
@[simp] theorem State.mapControls_surfaceSending (s : State) (f : Nat → Control → Control) :
    (s.mapControls f).surfaceSending = s.surfaceSending := rfl
@[simp] theorem State.mapControls_chainPace (s : State) (f : Nat → Control → Control) :
    (s.mapControls f).chainPace = s.chainPace := rfl
@[simp] theorem State.mapControls_paceOwed (s : State) (f : Nat → Control → Control) :
    (s.mapControls f).paceOwed = s.paceOwed := rfl
@[simp] theorem State.mapControls_requests (s : State) (f : Nat → Control → Control) :
    (s.mapControls f).requests = s.requests := rfl
@[simp] theorem State.mapControls_head (s : State) (f : Nat → Control → Control) :
    (s.mapControls f).head = s.head := rfl
@[simp] theorem State.mapControls_replies (s : State) (f : Nat → Control → Control) :
    (s.mapControls f).replies = s.replies := rfl
@[simp] theorem State.mapControls_resetCause (s : State) (f : Nat → Control → Control) :
    (s.mapControls f).resetCause = s.resetCause := rfl
@[simp] theorem State.mapControls_capture (s : State) (f : Nat → Control → Control) :
    (s.mapControls f).capture = s.capture := rfl
@[simp] theorem State.mapControls_pending (s : State) (f : Nat → Control → Control) :
    (s.mapControls f).pending = s.pending := rfl

@[simp] theorem State.pushOut_settings (s : State) (f : Frame) (b : Bool) :
    (s.pushOut f b).settings = s.settings := rfl
@[simp] theorem State.pushOut_profiles (s : State) (f : Frame) (b : Bool) :
    (s.pushOut f b).profiles = s.profiles := rfl
@[simp] theorem State.pushOut_lanes (s : State) (f : Frame) (b : Bool) : (s.pushOut f b).lanes = s.lanes := rfl
@[simp] theorem State.pushOut_modules (s : State) (f : Frame) (b : Bool) : (s.pushOut f b).modules = s.modules := rfl
@[simp] theorem State.pushOut_elements (s : State) (f : Frame) (b : Bool) :
    (s.pushOut f b).elements = s.elements := rfl
@[simp] theorem State.pushOut_surfaceFramer (s : State) (f : Frame) (b : Bool) :
    (s.pushOut f b).surfaceFramer = s.surfaceFramer := rfl
@[simp] theorem State.pushOut_consoleFramer (s : State) (f : Frame) (b : Bool) :
    (s.pushOut f b).consoleFramer = s.consoleFramer := rfl
@[simp] theorem State.pushOut_counters (s : State) (f : Frame) (b : Bool) :
    (s.pushOut f b).counters = s.counters := rfl
@[simp] theorem State.pushOut_pauseIn (s : State) (f : Frame) (b : Bool) : (s.pushOut f b).pauseIn = s.pauseIn := rfl
@[simp] theorem State.pushOut_consoleRx (s : State) (f : Frame) (b : Bool) :
    (s.pushOut f b).consoleRx = s.consoleRx := rfl
@[simp] theorem State.pushOut_detector (s : State) (f : Frame) (b : Bool) :
    (s.pushOut f b).detector = s.detector := rfl
@[simp] theorem State.pushOut_powerReset (s : State) (f : Frame) (b : Bool) :
    (s.pushOut f b).powerReset = s.powerReset := rfl
@[simp] theorem State.pushOut_consoleTx (s : State) (f : Frame) (b : Bool) :
    (s.pushOut f b).consoleTx = s.consoleTx := rfl
@[simp] theorem State.pushOut_burst (s : State) (f : Frame) (b : Bool) : (s.pushOut f b).burst = s.burst := rfl
@[simp] theorem State.pushOut_passQueue (s : State) (f : Frame) (b : Bool) :
    (s.pushOut f b).passQueue = s.passQueue := rfl
@[simp] theorem State.pushOut_systemLost (s : State) (f : Frame) (b : Bool) :
    (s.pushOut f b).systemLost = s.systemLost := rfl
@[simp] theorem State.pushOut_stack (s : State) (f : Frame) (b : Bool) : (s.pushOut f b).stack = s.stack := rfl
@[simp] theorem State.pushOut_outbound (s : State) (f : Frame) (b : Bool) :
    (s.pushOut f b).outbound = s.outbound ++ [⟨f, b⟩] := rfl
@[simp] theorem State.pushOut_surfaceSending (s : State) (f : Frame) (b : Bool) :
    (s.pushOut f b).surfaceSending = s.surfaceSending := rfl
@[simp] theorem State.pushOut_chainPace (s : State) (f : Frame) (b : Bool) :
    (s.pushOut f b).chainPace = s.chainPace := rfl
@[simp] theorem State.pushOut_paceOwed (s : State) (f : Frame) (b : Bool) :
    (s.pushOut f b).paceOwed = s.paceOwed := rfl
@[simp] theorem State.pushOut_requests (s : State) (f : Frame) (b : Bool) :
    (s.pushOut f b).requests = s.requests := rfl
@[simp] theorem State.pushOut_head (s : State) (f : Frame) (b : Bool) : (s.pushOut f b).head = s.head := rfl
@[simp] theorem State.pushOut_replies (s : State) (f : Frame) (b : Bool) : (s.pushOut f b).replies = s.replies := rfl
@[simp] theorem State.pushOut_resetCause (s : State) (f : Frame) (b : Bool) :
    (s.pushOut f b).resetCause = s.resetCause := rfl
@[simp] theorem State.pushOut_capture (s : State) (f : Frame) (b : Bool) : (s.pushOut f b).capture = s.capture := rfl
@[simp] theorem State.pushOut_pending (s : State) (f : Frame) (b : Bool) : (s.pushOut f b).pending = s.pending := rfl

@[simp] theorem State.pushNotice_settings (s : State) (n : Notice) : (s.pushNotice n).settings = s.settings := rfl
@[simp] theorem State.pushNotice_profiles (s : State) (n : Notice) : (s.pushNotice n).profiles = s.profiles := rfl
@[simp] theorem State.pushNotice_lanes (s : State) (n : Notice) :
    (s.pushNotice n).lanes = s.lanes.set n.lane { s.lane n.lane with fifo := (s.lane n.lane).fifo ++ [n] } := rfl
@[simp] theorem State.pushNotice_modules (s : State) (n : Notice) : (s.pushNotice n).modules = s.modules := rfl
@[simp] theorem State.pushNotice_elements (s : State) (n : Notice) : (s.pushNotice n).elements = s.elements := rfl
@[simp] theorem State.pushNotice_surfaceFramer (s : State) (n : Notice) :
    (s.pushNotice n).surfaceFramer = s.surfaceFramer := rfl
@[simp] theorem State.pushNotice_consoleFramer (s : State) (n : Notice) :
    (s.pushNotice n).consoleFramer = s.consoleFramer := rfl
@[simp] theorem State.pushNotice_counters (s : State) (n : Notice) : (s.pushNotice n).counters = s.counters := rfl
@[simp] theorem State.pushNotice_pauseIn (s : State) (n : Notice) : (s.pushNotice n).pauseIn = s.pauseIn := rfl
@[simp] theorem State.pushNotice_consoleRx (s : State) (n : Notice) : (s.pushNotice n).consoleRx = s.consoleRx := rfl
@[simp] theorem State.pushNotice_detector (s : State) (n : Notice) : (s.pushNotice n).detector = s.detector := rfl
@[simp] theorem State.pushNotice_powerReset (s : State) (n : Notice) :
    (s.pushNotice n).powerReset = s.powerReset := rfl
@[simp] theorem State.pushNotice_consoleTx (s : State) (n : Notice) : (s.pushNotice n).consoleTx = s.consoleTx := rfl
@[simp] theorem State.pushNotice_burst (s : State) (n : Notice) : (s.pushNotice n).burst = s.burst := rfl
@[simp] theorem State.pushNotice_passQueue (s : State) (n : Notice) : (s.pushNotice n).passQueue = s.passQueue := rfl
@[simp] theorem State.pushNotice_systemLost (s : State) (n : Notice) :
    (s.pushNotice n).systemLost = s.systemLost := rfl
@[simp] theorem State.pushNotice_stack (s : State) (n : Notice) : (s.pushNotice n).stack = s.stack := rfl
@[simp] theorem State.pushNotice_outbound (s : State) (n : Notice) : (s.pushNotice n).outbound = s.outbound := rfl
@[simp] theorem State.pushNotice_surfaceSending (s : State) (n : Notice) :
    (s.pushNotice n).surfaceSending = s.surfaceSending := rfl
@[simp] theorem State.pushNotice_chainPace (s : State) (n : Notice) : (s.pushNotice n).chainPace = s.chainPace := rfl
@[simp] theorem State.pushNotice_paceOwed (s : State) (n : Notice) : (s.pushNotice n).paceOwed = s.paceOwed := rfl
@[simp] theorem State.pushNotice_requests (s : State) (n : Notice) : (s.pushNotice n).requests = s.requests := rfl
@[simp] theorem State.pushNotice_head (s : State) (n : Notice) : (s.pushNotice n).head = s.head := rfl
@[simp] theorem State.pushNotice_replies (s : State) (n : Notice) : (s.pushNotice n).replies = s.replies := rfl
@[simp] theorem State.pushNotice_resetCause (s : State) (n : Notice) :
    (s.pushNotice n).resetCause = s.resetCause := rfl
@[simp] theorem State.pushNotice_capture (s : State) (n : Notice) : (s.pushNotice n).capture = s.capture := rfl
@[simp] theorem State.pushNotice_pending (s : State) (n : Notice) : (s.pushNotice n).pending = s.pending := rfl

@[simp] theorem State.countOverflow_settings (s : State) (l : Fin 8) :
    (s.countOverflow l).settings = s.settings := rfl
@[simp] theorem State.countOverflow_profiles (s : State) (l : Fin 8) :
    (s.countOverflow l).profiles = s.profiles := rfl
@[simp] theorem State.countOverflow_lanes (s : State) (l : Fin 8) :
    (s.countOverflow l).lanes = s.lanes.set l { s.lane l with overflow := bump Config.counterTop (s.lane l).overflow } := rfl
@[simp] theorem State.countOverflow_modules (s : State) (l : Fin 8) : (s.countOverflow l).modules = s.modules := rfl
@[simp] theorem State.countOverflow_elements (s : State) (l : Fin 8) :
    (s.countOverflow l).elements = s.elements := rfl
@[simp] theorem State.countOverflow_surfaceFramer (s : State) (l : Fin 8) :
    (s.countOverflow l).surfaceFramer = s.surfaceFramer := rfl
@[simp] theorem State.countOverflow_consoleFramer (s : State) (l : Fin 8) :
    (s.countOverflow l).consoleFramer = s.consoleFramer := rfl
@[simp] theorem State.countOverflow_counters (s : State) (l : Fin 8) :
    (s.countOverflow l).counters = s.counters := rfl
@[simp] theorem State.countOverflow_pauseIn (s : State) (l : Fin 8) : (s.countOverflow l).pauseIn = s.pauseIn := rfl
@[simp] theorem State.countOverflow_consoleRx (s : State) (l : Fin 8) :
    (s.countOverflow l).consoleRx = s.consoleRx := rfl
@[simp] theorem State.countOverflow_detector (s : State) (l : Fin 8) :
    (s.countOverflow l).detector = s.detector := rfl
@[simp] theorem State.countOverflow_powerReset (s : State) (l : Fin 8) :
    (s.countOverflow l).powerReset = s.powerReset := rfl
@[simp] theorem State.countOverflow_consoleTx (s : State) (l : Fin 8) :
    (s.countOverflow l).consoleTx = s.consoleTx := rfl
@[simp] theorem State.countOverflow_burst (s : State) (l : Fin 8) : (s.countOverflow l).burst = s.burst := rfl
@[simp] theorem State.countOverflow_passQueue (s : State) (l : Fin 8) :
    (s.countOverflow l).passQueue = s.passQueue := rfl
@[simp] theorem State.countOverflow_systemLost (s : State) (l : Fin 8) :
    (s.countOverflow l).systemLost = s.systemLost := rfl
@[simp] theorem State.countOverflow_stack (s : State) (l : Fin 8) : (s.countOverflow l).stack = s.stack := rfl
@[simp] theorem State.countOverflow_outbound (s : State) (l : Fin 8) :
    (s.countOverflow l).outbound = s.outbound := rfl
@[simp] theorem State.countOverflow_surfaceSending (s : State) (l : Fin 8) :
    (s.countOverflow l).surfaceSending = s.surfaceSending := rfl
@[simp] theorem State.countOverflow_chainPace (s : State) (l : Fin 8) :
    (s.countOverflow l).chainPace = s.chainPace := rfl
@[simp] theorem State.countOverflow_paceOwed (s : State) (l : Fin 8) :
    (s.countOverflow l).paceOwed = s.paceOwed := rfl
@[simp] theorem State.countOverflow_requests (s : State) (l : Fin 8) :
    (s.countOverflow l).requests = s.requests := rfl
@[simp] theorem State.countOverflow_head (s : State) (l : Fin 8) : (s.countOverflow l).head = s.head := rfl
@[simp] theorem State.countOverflow_replies (s : State) (l : Fin 8) : (s.countOverflow l).replies = s.replies := rfl
@[simp] theorem State.countOverflow_resetCause (s : State) (l : Fin 8) :
    (s.countOverflow l).resetCause = s.resetCause := rfl
@[simp] theorem State.countOverflow_capture (s : State) (l : Fin 8) : (s.countOverflow l).capture = s.capture := rfl
@[simp] theorem State.countOverflow_pending (s : State) (l : Fin 8) : (s.countOverflow l).pending = s.pending := rfl

@[simp] theorem State.countMisaddressed_settings (s : State) : s.countMisaddressed.settings = s.settings := rfl
@[simp] theorem State.countMisaddressed_profiles (s : State) : s.countMisaddressed.profiles = s.profiles := rfl
@[simp] theorem State.countMisaddressed_lanes (s : State) : s.countMisaddressed.lanes = s.lanes := rfl
@[simp] theorem State.countMisaddressed_modules (s : State) : s.countMisaddressed.modules = s.modules := rfl
@[simp] theorem State.countMisaddressed_elements (s : State) : s.countMisaddressed.elements = s.elements := rfl
@[simp] theorem State.countMisaddressed_surfaceFramer (s : State) :
    s.countMisaddressed.surfaceFramer = s.surfaceFramer := rfl
@[simp] theorem State.countMisaddressed_consoleFramer (s : State) :
    s.countMisaddressed.consoleFramer = s.consoleFramer := rfl
@[simp] theorem State.countMisaddressed_counters (s : State) :
    s.countMisaddressed.counters = { s.counters with misaddressed := bump Config.counterTop s.counters.misaddressed } := rfl
@[simp] theorem State.countMisaddressed_pauseIn (s : State) : s.countMisaddressed.pauseIn = s.pauseIn := rfl
@[simp] theorem State.countMisaddressed_consoleRx (s : State) : s.countMisaddressed.consoleRx = s.consoleRx := rfl
@[simp] theorem State.countMisaddressed_detector (s : State) : s.countMisaddressed.detector = s.detector := rfl
@[simp] theorem State.countMisaddressed_powerReset (s : State) : s.countMisaddressed.powerReset = s.powerReset := rfl
@[simp] theorem State.countMisaddressed_consoleTx (s : State) : s.countMisaddressed.consoleTx = s.consoleTx := rfl
@[simp] theorem State.countMisaddressed_burst (s : State) : s.countMisaddressed.burst = s.burst := rfl
@[simp] theorem State.countMisaddressed_passQueue (s : State) : s.countMisaddressed.passQueue = s.passQueue := rfl
@[simp] theorem State.countMisaddressed_systemLost (s : State) : s.countMisaddressed.systemLost = s.systemLost := rfl
@[simp] theorem State.countMisaddressed_stack (s : State) : s.countMisaddressed.stack = s.stack := rfl
@[simp] theorem State.countMisaddressed_outbound (s : State) : s.countMisaddressed.outbound = s.outbound := rfl
@[simp] theorem State.countMisaddressed_surfaceSending (s : State) :
    s.countMisaddressed.surfaceSending = s.surfaceSending := rfl
@[simp] theorem State.countMisaddressed_chainPace (s : State) : s.countMisaddressed.chainPace = s.chainPace := rfl
@[simp] theorem State.countMisaddressed_paceOwed (s : State) : s.countMisaddressed.paceOwed = s.paceOwed := rfl
@[simp] theorem State.countMisaddressed_requests (s : State) : s.countMisaddressed.requests = s.requests := rfl
@[simp] theorem State.countMisaddressed_head (s : State) : s.countMisaddressed.head = s.head := rfl
@[simp] theorem State.countMisaddressed_replies (s : State) : s.countMisaddressed.replies = s.replies := rfl
@[simp] theorem State.countMisaddressed_resetCause (s : State) : s.countMisaddressed.resetCause = s.resetCause := rfl
@[simp] theorem State.countMisaddressed_capture (s : State) : s.countMisaddressed.capture = s.capture := rfl
@[simp] theorem State.countMisaddressed_pending (s : State) : s.countMisaddressed.pending = s.pending := rfl

@[simp] theorem State.countRangeError_settings (s : State) : s.countRangeError.settings = s.settings := rfl
@[simp] theorem State.countRangeError_profiles (s : State) : s.countRangeError.profiles = s.profiles := rfl
@[simp] theorem State.countRangeError_lanes (s : State) : s.countRangeError.lanes = s.lanes := rfl
@[simp] theorem State.countRangeError_modules (s : State) : s.countRangeError.modules = s.modules := rfl
@[simp] theorem State.countRangeError_elements (s : State) : s.countRangeError.elements = s.elements := rfl
@[simp] theorem State.countRangeError_surfaceFramer (s : State) :
    s.countRangeError.surfaceFramer = s.surfaceFramer := rfl
@[simp] theorem State.countRangeError_consoleFramer (s : State) :
    s.countRangeError.consoleFramer = s.consoleFramer := rfl
@[simp] theorem State.countRangeError_counters (s : State) :
    s.countRangeError.counters = { s.counters with rangeErrors := bump Config.counterTop s.counters.rangeErrors } := rfl
@[simp] theorem State.countRangeError_pauseIn (s : State) : s.countRangeError.pauseIn = s.pauseIn := rfl
@[simp] theorem State.countRangeError_consoleRx (s : State) : s.countRangeError.consoleRx = s.consoleRx := rfl
@[simp] theorem State.countRangeError_detector (s : State) : s.countRangeError.detector = s.detector := rfl
@[simp] theorem State.countRangeError_powerReset (s : State) : s.countRangeError.powerReset = s.powerReset := rfl
@[simp] theorem State.countRangeError_consoleTx (s : State) : s.countRangeError.consoleTx = s.consoleTx := rfl
@[simp] theorem State.countRangeError_burst (s : State) : s.countRangeError.burst = s.burst := rfl
@[simp] theorem State.countRangeError_passQueue (s : State) : s.countRangeError.passQueue = s.passQueue := rfl
@[simp] theorem State.countRangeError_systemLost (s : State) : s.countRangeError.systemLost = s.systemLost := rfl
@[simp] theorem State.countRangeError_stack (s : State) : s.countRangeError.stack = s.stack := rfl
@[simp] theorem State.countRangeError_outbound (s : State) : s.countRangeError.outbound = s.outbound := rfl
@[simp] theorem State.countRangeError_surfaceSending (s : State) :
    s.countRangeError.surfaceSending = s.surfaceSending := rfl
@[simp] theorem State.countRangeError_chainPace (s : State) : s.countRangeError.chainPace = s.chainPace := rfl
@[simp] theorem State.countRangeError_paceOwed (s : State) : s.countRangeError.paceOwed = s.paceOwed := rfl
@[simp] theorem State.countRangeError_requests (s : State) : s.countRangeError.requests = s.requests := rfl
@[simp] theorem State.countRangeError_head (s : State) : s.countRangeError.head = s.head := rfl
@[simp] theorem State.countRangeError_replies (s : State) : s.countRangeError.replies = s.replies := rfl
@[simp] theorem State.countRangeError_resetCause (s : State) : s.countRangeError.resetCause = s.resetCause := rfl
@[simp] theorem State.countRangeError_capture (s : State) : s.countRangeError.capture = s.capture := rfl
@[simp] theorem State.countRangeError_pending (s : State) : s.countRangeError.pending = s.pending := rfl

@[simp] theorem State.countDiscarded_settings (s : State) : s.countDiscarded.settings = s.settings := rfl
@[simp] theorem State.countDiscarded_profiles (s : State) : s.countDiscarded.profiles = s.profiles := rfl
@[simp] theorem State.countDiscarded_lanes (s : State) : s.countDiscarded.lanes = s.lanes := rfl
@[simp] theorem State.countDiscarded_modules (s : State) : s.countDiscarded.modules = s.modules := rfl
@[simp] theorem State.countDiscarded_elements (s : State) : s.countDiscarded.elements = s.elements := rfl
@[simp] theorem State.countDiscarded_surfaceFramer (s : State) :
    s.countDiscarded.surfaceFramer = s.surfaceFramer := rfl
@[simp] theorem State.countDiscarded_consoleFramer (s : State) :
    s.countDiscarded.consoleFramer = s.consoleFramer := rfl
@[simp] theorem State.countDiscarded_counters (s : State) :
    s.countDiscarded.counters = { s.counters with discarded := bump Config.counterTop s.counters.discarded } := rfl
@[simp] theorem State.countDiscarded_pauseIn (s : State) : s.countDiscarded.pauseIn = s.pauseIn := rfl
@[simp] theorem State.countDiscarded_consoleRx (s : State) : s.countDiscarded.consoleRx = s.consoleRx := rfl
@[simp] theorem State.countDiscarded_detector (s : State) : s.countDiscarded.detector = s.detector := rfl
@[simp] theorem State.countDiscarded_powerReset (s : State) : s.countDiscarded.powerReset = s.powerReset := rfl
@[simp] theorem State.countDiscarded_consoleTx (s : State) : s.countDiscarded.consoleTx = s.consoleTx := rfl
@[simp] theorem State.countDiscarded_burst (s : State) : s.countDiscarded.burst = s.burst := rfl
@[simp] theorem State.countDiscarded_passQueue (s : State) : s.countDiscarded.passQueue = s.passQueue := rfl
@[simp] theorem State.countDiscarded_systemLost (s : State) : s.countDiscarded.systemLost = s.systemLost := rfl
@[simp] theorem State.countDiscarded_stack (s : State) : s.countDiscarded.stack = s.stack := rfl
@[simp] theorem State.countDiscarded_outbound (s : State) : s.countDiscarded.outbound = s.outbound := rfl
@[simp] theorem State.countDiscarded_surfaceSending (s : State) :
    s.countDiscarded.surfaceSending = s.surfaceSending := rfl
@[simp] theorem State.countDiscarded_chainPace (s : State) : s.countDiscarded.chainPace = s.chainPace := rfl
@[simp] theorem State.countDiscarded_paceOwed (s : State) : s.countDiscarded.paceOwed = s.paceOwed := rfl
@[simp] theorem State.countDiscarded_requests (s : State) : s.countDiscarded.requests = s.requests := rfl
@[simp] theorem State.countDiscarded_head (s : State) : s.countDiscarded.head = s.head := rfl
@[simp] theorem State.countDiscarded_replies (s : State) : s.countDiscarded.replies = s.replies := rfl
@[simp] theorem State.countDiscarded_resetCause (s : State) : s.countDiscarded.resetCause = s.resetCause := rfl
@[simp] theorem State.countDiscarded_capture (s : State) : s.countDiscarded.capture = s.capture := rfl
@[simp] theorem State.countDiscarded_pending (s : State) : s.countDiscarded.pending = s.pending := rfl

@[simp] theorem State.countPassDrop_settings (s : State) : s.countPassDrop.settings = s.settings := rfl
@[simp] theorem State.countPassDrop_profiles (s : State) : s.countPassDrop.profiles = s.profiles := rfl
@[simp] theorem State.countPassDrop_lanes (s : State) : s.countPassDrop.lanes = s.lanes := rfl
@[simp] theorem State.countPassDrop_modules (s : State) : s.countPassDrop.modules = s.modules := rfl
@[simp] theorem State.countPassDrop_elements (s : State) : s.countPassDrop.elements = s.elements := rfl
@[simp] theorem State.countPassDrop_surfaceFramer (s : State) : s.countPassDrop.surfaceFramer = s.surfaceFramer := rfl
@[simp] theorem State.countPassDrop_consoleFramer (s : State) : s.countPassDrop.consoleFramer = s.consoleFramer := rfl
@[simp] theorem State.countPassDrop_counters (s : State) :
    s.countPassDrop.counters = { s.counters with passDrops := bump Config.counterTop s.counters.passDrops } := rfl
@[simp] theorem State.countPassDrop_pauseIn (s : State) : s.countPassDrop.pauseIn = s.pauseIn := rfl
@[simp] theorem State.countPassDrop_consoleRx (s : State) : s.countPassDrop.consoleRx = s.consoleRx := rfl
@[simp] theorem State.countPassDrop_detector (s : State) : s.countPassDrop.detector = s.detector := rfl
@[simp] theorem State.countPassDrop_powerReset (s : State) : s.countPassDrop.powerReset = s.powerReset := rfl
@[simp] theorem State.countPassDrop_consoleTx (s : State) : s.countPassDrop.consoleTx = s.consoleTx := rfl
@[simp] theorem State.countPassDrop_burst (s : State) : s.countPassDrop.burst = s.burst := rfl
@[simp] theorem State.countPassDrop_passQueue (s : State) : s.countPassDrop.passQueue = s.passQueue := rfl
@[simp] theorem State.countPassDrop_systemLost (s : State) : s.countPassDrop.systemLost = s.systemLost := rfl
@[simp] theorem State.countPassDrop_stack (s : State) : s.countPassDrop.stack = s.stack := rfl
@[simp] theorem State.countPassDrop_outbound (s : State) : s.countPassDrop.outbound = s.outbound := rfl
@[simp] theorem State.countPassDrop_surfaceSending (s : State) :
    s.countPassDrop.surfaceSending = s.surfaceSending := rfl
@[simp] theorem State.countPassDrop_chainPace (s : State) : s.countPassDrop.chainPace = s.chainPace := rfl
@[simp] theorem State.countPassDrop_paceOwed (s : State) : s.countPassDrop.paceOwed = s.paceOwed := rfl
@[simp] theorem State.countPassDrop_requests (s : State) : s.countPassDrop.requests = s.requests := rfl
@[simp] theorem State.countPassDrop_head (s : State) : s.countPassDrop.head = s.head := rfl
@[simp] theorem State.countPassDrop_replies (s : State) : s.countPassDrop.replies = s.replies := rfl
@[simp] theorem State.countPassDrop_resetCause (s : State) : s.countPassDrop.resetCause = s.resetCause := rfl
@[simp] theorem State.countPassDrop_capture (s : State) : s.countPassDrop.capture = s.capture := rfl
@[simp] theorem State.countPassDrop_pending (s : State) : s.countPassDrop.pending = s.pending := rfl

@[simp] theorem State.countOutboundDrop_settings (s : State) : s.countOutboundDrop.settings = s.settings := rfl
@[simp] theorem State.countOutboundDrop_profiles (s : State) : s.countOutboundDrop.profiles = s.profiles := rfl
@[simp] theorem State.countOutboundDrop_lanes (s : State) : s.countOutboundDrop.lanes = s.lanes := rfl
@[simp] theorem State.countOutboundDrop_modules (s : State) : s.countOutboundDrop.modules = s.modules := rfl
@[simp] theorem State.countOutboundDrop_elements (s : State) : s.countOutboundDrop.elements = s.elements := rfl
@[simp] theorem State.countOutboundDrop_surfaceFramer (s : State) :
    s.countOutboundDrop.surfaceFramer = s.surfaceFramer := rfl
@[simp] theorem State.countOutboundDrop_consoleFramer (s : State) :
    s.countOutboundDrop.consoleFramer = s.consoleFramer := rfl
@[simp] theorem State.countOutboundDrop_counters (s : State) :
    s.countOutboundDrop.counters = { s.counters with outboundDrops := bump Config.counterTop s.counters.outboundDrops } := rfl
@[simp] theorem State.countOutboundDrop_pauseIn (s : State) : s.countOutboundDrop.pauseIn = s.pauseIn := rfl
@[simp] theorem State.countOutboundDrop_consoleRx (s : State) : s.countOutboundDrop.consoleRx = s.consoleRx := rfl
@[simp] theorem State.countOutboundDrop_detector (s : State) : s.countOutboundDrop.detector = s.detector := rfl
@[simp] theorem State.countOutboundDrop_powerReset (s : State) : s.countOutboundDrop.powerReset = s.powerReset := rfl
@[simp] theorem State.countOutboundDrop_consoleTx (s : State) : s.countOutboundDrop.consoleTx = s.consoleTx := rfl
@[simp] theorem State.countOutboundDrop_burst (s : State) : s.countOutboundDrop.burst = s.burst := rfl
@[simp] theorem State.countOutboundDrop_passQueue (s : State) : s.countOutboundDrop.passQueue = s.passQueue := rfl
@[simp] theorem State.countOutboundDrop_systemLost (s : State) : s.countOutboundDrop.systemLost = s.systemLost := rfl
@[simp] theorem State.countOutboundDrop_stack (s : State) : s.countOutboundDrop.stack = s.stack := rfl
@[simp] theorem State.countOutboundDrop_outbound (s : State) : s.countOutboundDrop.outbound = s.outbound := rfl
@[simp] theorem State.countOutboundDrop_surfaceSending (s : State) :
    s.countOutboundDrop.surfaceSending = s.surfaceSending := rfl
@[simp] theorem State.countOutboundDrop_chainPace (s : State) : s.countOutboundDrop.chainPace = s.chainPace := rfl
@[simp] theorem State.countOutboundDrop_paceOwed (s : State) : s.countOutboundDrop.paceOwed = s.paceOwed := rfl
@[simp] theorem State.countOutboundDrop_requests (s : State) : s.countOutboundDrop.requests = s.requests := rfl
@[simp] theorem State.countOutboundDrop_head (s : State) : s.countOutboundDrop.head = s.head := rfl
@[simp] theorem State.countOutboundDrop_replies (s : State) : s.countOutboundDrop.replies = s.replies := rfl
@[simp] theorem State.countOutboundDrop_resetCause (s : State) : s.countOutboundDrop.resetCause = s.resetCause := rfl
@[simp] theorem State.countOutboundDrop_capture (s : State) : s.countOutboundDrop.capture = s.capture := rfl
@[simp] theorem State.countOutboundDrop_pending (s : State) : s.countOutboundDrop.pending = s.pending := rfl

@[simp] theorem State.countRequestDrop_settings (s : State) : s.countRequestDrop.settings = s.settings := rfl
@[simp] theorem State.countRequestDrop_profiles (s : State) : s.countRequestDrop.profiles = s.profiles := rfl
@[simp] theorem State.countRequestDrop_lanes (s : State) : s.countRequestDrop.lanes = s.lanes := rfl
@[simp] theorem State.countRequestDrop_modules (s : State) : s.countRequestDrop.modules = s.modules := rfl
@[simp] theorem State.countRequestDrop_elements (s : State) : s.countRequestDrop.elements = s.elements := rfl
@[simp] theorem State.countRequestDrop_surfaceFramer (s : State) :
    s.countRequestDrop.surfaceFramer = s.surfaceFramer := rfl
@[simp] theorem State.countRequestDrop_consoleFramer (s : State) :
    s.countRequestDrop.consoleFramer = s.consoleFramer := rfl
@[simp] theorem State.countRequestDrop_counters (s : State) :
    s.countRequestDrop.counters = { s.counters with requestDrops := bump Config.counterTop s.counters.requestDrops } := rfl
@[simp] theorem State.countRequestDrop_pauseIn (s : State) : s.countRequestDrop.pauseIn = s.pauseIn := rfl
@[simp] theorem State.countRequestDrop_consoleRx (s : State) : s.countRequestDrop.consoleRx = s.consoleRx := rfl
@[simp] theorem State.countRequestDrop_detector (s : State) : s.countRequestDrop.detector = s.detector := rfl
@[simp] theorem State.countRequestDrop_powerReset (s : State) : s.countRequestDrop.powerReset = s.powerReset := rfl
@[simp] theorem State.countRequestDrop_consoleTx (s : State) : s.countRequestDrop.consoleTx = s.consoleTx := rfl
@[simp] theorem State.countRequestDrop_burst (s : State) : s.countRequestDrop.burst = s.burst := rfl
@[simp] theorem State.countRequestDrop_passQueue (s : State) : s.countRequestDrop.passQueue = s.passQueue := rfl
@[simp] theorem State.countRequestDrop_systemLost (s : State) : s.countRequestDrop.systemLost = s.systemLost := rfl
@[simp] theorem State.countRequestDrop_stack (s : State) : s.countRequestDrop.stack = s.stack := rfl
@[simp] theorem State.countRequestDrop_outbound (s : State) : s.countRequestDrop.outbound = s.outbound := rfl
@[simp] theorem State.countRequestDrop_surfaceSending (s : State) :
    s.countRequestDrop.surfaceSending = s.surfaceSending := rfl
@[simp] theorem State.countRequestDrop_chainPace (s : State) : s.countRequestDrop.chainPace = s.chainPace := rfl
@[simp] theorem State.countRequestDrop_paceOwed (s : State) : s.countRequestDrop.paceOwed = s.paceOwed := rfl
@[simp] theorem State.countRequestDrop_requests (s : State) : s.countRequestDrop.requests = s.requests := rfl
@[simp] theorem State.countRequestDrop_head (s : State) : s.countRequestDrop.head = s.head := rfl
@[simp] theorem State.countRequestDrop_replies (s : State) : s.countRequestDrop.replies = s.replies := rfl
@[simp] theorem State.countRequestDrop_resetCause (s : State) : s.countRequestDrop.resetCause = s.resetCause := rfl
@[simp] theorem State.countRequestDrop_capture (s : State) : s.countRequestDrop.capture = s.capture := rfl
@[simp] theorem State.countRequestDrop_pending (s : State) : s.countRequestDrop.pending = s.pending := rfl

@[simp] theorem State.countSystemLost_settings (s : State) : s.countSystemLost.settings = s.settings := rfl
@[simp] theorem State.countSystemLost_profiles (s : State) : s.countSystemLost.profiles = s.profiles := rfl
@[simp] theorem State.countSystemLost_lanes (s : State) : s.countSystemLost.lanes = s.lanes := rfl
@[simp] theorem State.countSystemLost_modules (s : State) : s.countSystemLost.modules = s.modules := rfl
@[simp] theorem State.countSystemLost_elements (s : State) : s.countSystemLost.elements = s.elements := rfl
@[simp] theorem State.countSystemLost_surfaceFramer (s : State) :
    s.countSystemLost.surfaceFramer = s.surfaceFramer := rfl
@[simp] theorem State.countSystemLost_consoleFramer (s : State) :
    s.countSystemLost.consoleFramer = s.consoleFramer := rfl
@[simp] theorem State.countSystemLost_counters (s : State) : s.countSystemLost.counters = s.counters := rfl
@[simp] theorem State.countSystemLost_pauseIn (s : State) : s.countSystemLost.pauseIn = s.pauseIn := rfl
@[simp] theorem State.countSystemLost_consoleRx (s : State) : s.countSystemLost.consoleRx = s.consoleRx := rfl
@[simp] theorem State.countSystemLost_detector (s : State) : s.countSystemLost.detector = s.detector := rfl
@[simp] theorem State.countSystemLost_powerReset (s : State) : s.countSystemLost.powerReset = s.powerReset := rfl
@[simp] theorem State.countSystemLost_consoleTx (s : State) : s.countSystemLost.consoleTx = s.consoleTx := rfl
@[simp] theorem State.countSystemLost_burst (s : State) : s.countSystemLost.burst = s.burst := rfl
@[simp] theorem State.countSystemLost_passQueue (s : State) : s.countSystemLost.passQueue = s.passQueue := rfl
@[simp] theorem State.countSystemLost_systemLost (s : State) :
    s.countSystemLost.systemLost = bump Config.countTop s.systemLost := rfl
@[simp] theorem State.countSystemLost_stack (s : State) : s.countSystemLost.stack = s.stack := rfl
@[simp] theorem State.countSystemLost_outbound (s : State) : s.countSystemLost.outbound = s.outbound := rfl
@[simp] theorem State.countSystemLost_surfaceSending (s : State) :
    s.countSystemLost.surfaceSending = s.surfaceSending := rfl
@[simp] theorem State.countSystemLost_chainPace (s : State) : s.countSystemLost.chainPace = s.chainPace := rfl
@[simp] theorem State.countSystemLost_paceOwed (s : State) : s.countSystemLost.paceOwed = s.paceOwed := rfl
@[simp] theorem State.countSystemLost_requests (s : State) : s.countSystemLost.requests = s.requests := rfl
@[simp] theorem State.countSystemLost_head (s : State) : s.countSystemLost.head = s.head := rfl
@[simp] theorem State.countSystemLost_replies (s : State) : s.countSystemLost.replies = s.replies := rfl
@[simp] theorem State.countSystemLost_resetCause (s : State) : s.countSystemLost.resetCause = s.resetCause := rfl
@[simp] theorem State.countSystemLost_capture (s : State) : s.countSystemLost.capture = s.capture := rfl
@[simp] theorem State.countSystemLost_pending (s : State) : s.countSystemLost.pending = s.pending := rfl

@[simp] theorem State.countFrameError_settings (s : State) (p : Port) :
    (s.countFrameError p).settings = s.settings := by cases p <;> rfl
@[simp] theorem State.countFrameError_profiles (s : State) (p : Port) :
    (s.countFrameError p).profiles = s.profiles := by cases p <;> rfl
@[simp] theorem State.countFrameError_lanes (s : State) (p : Port) :
    (s.countFrameError p).lanes = s.lanes := by cases p <;> rfl
@[simp] theorem State.countFrameError_modules (s : State) (p : Port) :
    (s.countFrameError p).modules = s.modules := by cases p <;> rfl
@[simp] theorem State.countFrameError_elements (s : State) (p : Port) :
    (s.countFrameError p).elements = s.elements := by cases p <;> rfl
@[simp] theorem State.countFrameError_surfaceFramer (s : State) (p : Port) :
    (s.countFrameError p).surfaceFramer = s.surfaceFramer := by cases p <;> rfl
@[simp] theorem State.countFrameError_consoleFramer (s : State) (p : Port) :
    (s.countFrameError p).consoleFramer = s.consoleFramer := by cases p <;> rfl
@[simp] theorem State.countFrameError_pauseIn (s : State) (p : Port) :
    (s.countFrameError p).pauseIn = s.pauseIn := by cases p <;> rfl
@[simp] theorem State.countFrameError_consoleRx (s : State) (p : Port) :
    (s.countFrameError p).consoleRx = s.consoleRx := by cases p <;> rfl
@[simp] theorem State.countFrameError_detector (s : State) (p : Port) :
    (s.countFrameError p).detector = s.detector := by cases p <;> rfl
@[simp] theorem State.countFrameError_powerReset (s : State) (p : Port) :
    (s.countFrameError p).powerReset = s.powerReset := by cases p <;> rfl
@[simp] theorem State.countFrameError_consoleTx (s : State) (p : Port) :
    (s.countFrameError p).consoleTx = s.consoleTx := by cases p <;> rfl
@[simp] theorem State.countFrameError_burst (s : State) (p : Port) :
    (s.countFrameError p).burst = s.burst := by cases p <;> rfl
@[simp] theorem State.countFrameError_passQueue (s : State) (p : Port) :
    (s.countFrameError p).passQueue = s.passQueue := by cases p <;> rfl
@[simp] theorem State.countFrameError_systemLost (s : State) (p : Port) :
    (s.countFrameError p).systemLost = s.systemLost := by cases p <;> rfl
@[simp] theorem State.countFrameError_stack (s : State) (p : Port) :
    (s.countFrameError p).stack = s.stack := by cases p <;> rfl
@[simp] theorem State.countFrameError_outbound (s : State) (p : Port) :
    (s.countFrameError p).outbound = s.outbound := by cases p <;> rfl
@[simp] theorem State.countFrameError_surfaceSending (s : State) (p : Port) :
    (s.countFrameError p).surfaceSending = s.surfaceSending := by cases p <;> rfl
@[simp] theorem State.countFrameError_chainPace (s : State) (p : Port) :
    (s.countFrameError p).chainPace = s.chainPace := by cases p <;> rfl
@[simp] theorem State.countFrameError_paceOwed (s : State) (p : Port) :
    (s.countFrameError p).paceOwed = s.paceOwed := by cases p <;> rfl
@[simp] theorem State.countFrameError_requests (s : State) (p : Port) :
    (s.countFrameError p).requests = s.requests := by cases p <;> rfl
@[simp] theorem State.countFrameError_head (s : State) (p : Port) :
    (s.countFrameError p).head = s.head := by cases p <;> rfl
@[simp] theorem State.countFrameError_replies (s : State) (p : Port) :
    (s.countFrameError p).replies = s.replies := by cases p <;> rfl
@[simp] theorem State.countFrameError_resetCause (s : State) (p : Port) :
    (s.countFrameError p).resetCause = s.resetCause := by cases p <;> rfl
@[simp] theorem State.countFrameError_capture (s : State) (p : Port) :
    (s.countFrameError p).capture = s.capture := by cases p <;> rfl
@[simp] theorem State.countFrameError_pending (s : State) (p : Port) :
    (s.countFrameError p).pending = s.pending := by cases p <;> rfl

@[simp] theorem State.setFramer_settings (s : State) (p : Port) (x : Framer) :
    (s.setFramer p x).settings = s.settings := by cases p <;> rfl
@[simp] theorem State.setFramer_profiles (s : State) (p : Port) (x : Framer) :
    (s.setFramer p x).profiles = s.profiles := by cases p <;> rfl
@[simp] theorem State.setFramer_lanes (s : State) (p : Port) (x : Framer) :
    (s.setFramer p x).lanes = s.lanes := by cases p <;> rfl
@[simp] theorem State.setFramer_modules (s : State) (p : Port) (x : Framer) :
    (s.setFramer p x).modules = s.modules := by cases p <;> rfl
@[simp] theorem State.setFramer_elements (s : State) (p : Port) (x : Framer) :
    (s.setFramer p x).elements = s.elements := by cases p <;> rfl
@[simp] theorem State.setFramer_counters (s : State) (p : Port) (x : Framer) :
    (s.setFramer p x).counters = s.counters := by cases p <;> rfl
@[simp] theorem State.setFramer_pauseIn (s : State) (p : Port) (x : Framer) :
    (s.setFramer p x).pauseIn = s.pauseIn := by cases p <;> rfl
@[simp] theorem State.setFramer_consoleRx (s : State) (p : Port) (x : Framer) :
    (s.setFramer p x).consoleRx = s.consoleRx := by cases p <;> rfl
@[simp] theorem State.setFramer_detector (s : State) (p : Port) (x : Framer) :
    (s.setFramer p x).detector = s.detector := by cases p <;> rfl
@[simp] theorem State.setFramer_powerReset (s : State) (p : Port) (x : Framer) :
    (s.setFramer p x).powerReset = s.powerReset := by cases p <;> rfl
@[simp] theorem State.setFramer_consoleTx (s : State) (p : Port) (x : Framer) :
    (s.setFramer p x).consoleTx = s.consoleTx := by cases p <;> rfl
@[simp] theorem State.setFramer_burst (s : State) (p : Port) (x : Framer) :
    (s.setFramer p x).burst = s.burst := by cases p <;> rfl
@[simp] theorem State.setFramer_passQueue (s : State) (p : Port) (x : Framer) :
    (s.setFramer p x).passQueue = s.passQueue := by cases p <;> rfl
@[simp] theorem State.setFramer_systemLost (s : State) (p : Port) (x : Framer) :
    (s.setFramer p x).systemLost = s.systemLost := by cases p <;> rfl
@[simp] theorem State.setFramer_stack (s : State) (p : Port) (x : Framer) :
    (s.setFramer p x).stack = s.stack := by cases p <;> rfl
@[simp] theorem State.setFramer_outbound (s : State) (p : Port) (x : Framer) :
    (s.setFramer p x).outbound = s.outbound := by cases p <;> rfl
@[simp] theorem State.setFramer_surfaceSending (s : State) (p : Port) (x : Framer) :
    (s.setFramer p x).surfaceSending = s.surfaceSending := by cases p <;> rfl
@[simp] theorem State.setFramer_chainPace (s : State) (p : Port) (x : Framer) :
    (s.setFramer p x).chainPace = s.chainPace := by cases p <;> rfl
@[simp] theorem State.setFramer_paceOwed (s : State) (p : Port) (x : Framer) :
    (s.setFramer p x).paceOwed = s.paceOwed := by cases p <;> rfl
@[simp] theorem State.setFramer_requests (s : State) (p : Port) (x : Framer) :
    (s.setFramer p x).requests = s.requests := by cases p <;> rfl
@[simp] theorem State.setFramer_head (s : State) (p : Port) (x : Framer) :
    (s.setFramer p x).head = s.head := by cases p <;> rfl
@[simp] theorem State.setFramer_replies (s : State) (p : Port) (x : Framer) :
    (s.setFramer p x).replies = s.replies := by cases p <;> rfl
@[simp] theorem State.setFramer_resetCause (s : State) (p : Port) (x : Framer) :
    (s.setFramer p x).resetCause = s.resetCause := by cases p <;> rfl
@[simp] theorem State.setFramer_capture (s : State) (p : Port) (x : Framer) :
    (s.setFramer p x).capture = s.capture := by cases p <;> rfl
@[simp] theorem State.setFramer_pending (s : State) (p : Port) (x : Framer) :
    (s.setFramer p x).pending = s.pending := by cases p <;> rfl

end Sys2Proof.Machine
end

