-- ==== Sys2Proof/Laws/Tables.lean ====
section
/-! SUPPORT. What reading a table gives after writing it, and that writes keep the canonical form (log 20). -/

namespace Sys2Proof.Machine

/-! ## Sparse tables -/

section Sparse
variable {α : Type} {d v : α} {i j n : Nat} {t : List (Nat × α)}

theorem Table.get_erase_self : Table.get d (Table.erase i t) i = d := by
  induction t with
  | nil => rfl
  | cons p t ih =>
    obtain ⟨k, w⟩ := p
    by_cases h : k = i <;> simp [Table.erase, Table.get, h, ih]

theorem Table.get_erase_of_ne (h : j ≠ i) : Table.get d (Table.erase i t) j = Table.get d t j := by
  induction t with
  | nil => rfl
  | cons p t ih =>
    obtain ⟨k, w⟩ := p
    by_cases hk : k = i
    · simp [Table.erase, Table.get, hk, ih, h.symm]
    · simp [Table.erase, Table.get, hk, ih]

theorem Table.get_of_above (h : Table.above i t) : Table.get d t i = d := by
  induction t with
  | nil => rfl
  | cons p t ih =>
    obtain ⟨k, w⟩ := p
    simp only [Table.above, Bool.and_eq_true, decide_eq_true_eq] at h
    simp [Table.get, Nat.ne_of_gt h.1, ih h.2]

theorem Table.get_insert_of_ne (h : j ≠ i) : Table.get d (Table.insert i v t) j = Table.get d t j := by
  induction t with
  | nil => simp [Table.insert, Table.get, h.symm]
  | cons p t ih =>
    obtain ⟨k, w⟩ := p
    by_cases hk : i < k <;> simp [Table.insert, Table.get, hk, ih, h.symm]

theorem Table.get_insert_erase_self : Table.get d (Table.insert i v (Table.erase i t)) i = v := by
  induction t with
  | nil => simp [Table.insert, Table.erase, Table.get]
  | cons p t ih =>
    obtain ⟨k, w⟩ := p
    by_cases hk : k = i
    · simp [Table.erase, hk, ih]
    · by_cases hl : i < k <;> simp [Table.erase, Table.insert, Table.get, hk, hl, ih]

/-- Reading the index that was set gives the value set. -/
theorem Table.get_put_self [DecidableEq α] : Table.get d (Table.put d i v t) i = v := by
  unfold Table.put
  split
  · simp_all [Table.get_erase_self]
  · exact Table.get_insert_erase_self

/-- Reading another index gives what was there. -/
theorem Table.get_put_of_ne [DecidableEq α] (h : j ≠ i) : Table.get d (Table.put d i v t) j = Table.get d t j := by
  unfold Table.put
  split
  · exact Table.get_erase_of_ne h
  · rw [Table.get_insert_of_ne h, Table.get_erase_of_ne h]

theorem Table.above_erase (h : Table.above j t) : Table.above j (Table.erase i t) := by
  induction t with
  | nil => rfl
  | cons p t ih =>
    obtain ⟨k, w⟩ := p
    simp only [Table.above, Bool.and_eq_true, decide_eq_true_eq] at h
    by_cases hk : k = i <;> simp [Table.erase, Table.above, hk, ih h.2, h.1]

theorem Table.above_insert (hij : j < i) (h : Table.above j t) : Table.above j (Table.insert i v t) := by
  induction t with
  | nil => simp [Table.insert, Table.above, hij]
  | cons p t ih =>
    obtain ⟨k, w⟩ := p
    simp only [Table.above, Bool.and_eq_true, decide_eq_true_eq] at h
    by_cases hk : i < k <;> simp [Table.insert, Table.above, hk, ih h.2, h.1, h.2, hij]

theorem Table.above_trans (hij : i < j) (h : Table.above j t) : Table.above i t := by
  induction t with
  | nil => rfl
  | cons p t ih =>
    obtain ⟨k, w⟩ := p
    simp only [Table.above, Bool.and_eq_true, decide_eq_true_eq] at h
    simp [Table.above, ih h.2]
    omega

theorem Table.wf_erase [DecidableEq α] (h : Table.wf d t) : Table.wf d (Table.erase i t) := by
  induction t with
  | nil => rfl
  | cons p t ih =>
    obtain ⟨k, w⟩ := p
    simp only [Table.wf, Bool.and_eq_true] at h
    by_cases hk : k = i
    · simpa [Table.erase, hk] using ih h.2
    · simp only [Table.erase, hk, if_false, Table.wf, Bool.and_eq_true]
      exact ⟨⟨h.1.1, Table.above_erase h.1.2⟩, ih h.2⟩

theorem Table.wf_insert [DecidableEq α] (hv : v ≠ d) (h : Table.wf d t) (hi : ∀ p ∈ t, p.1 ≠ i) : Table.wf d (Table.insert i v t) := by
  induction t with
  | nil => simp [Table.insert, Table.wf, Table.above, hv]
  | cons p t ih =>
    obtain ⟨k, w⟩ := p
    simp only [Table.wf, Bool.and_eq_true, decide_eq_true_eq] at h
    have hki : k ≠ i := hi (k, w) (by simp)
    by_cases hk : i < k
    · simp [Table.insert, hk, Table.wf, Table.above, hv, h.1.1, h.1.2, h.2, Table.above_trans hk h.1.2]
    · simp only [Table.insert, hk, if_false, Table.wf, Bool.and_eq_true, decide_eq_true_eq]
      exact ⟨⟨h.1.1, Table.above_insert (by omega) h.1.2⟩, ih h.2 fun p hp => hi p (by simp [hp])⟩

theorem Table.not_mem_erase : ∀ p ∈ Table.erase i t, p.1 ≠ i := by
  induction t with
  | nil => simp [Table.erase]
  | cons p t ih =>
    obtain ⟨k, w⟩ := p
    by_cases hk : k = i
    · simpa [Table.erase, hk] using ih
    · simp only [Table.erase, hk, if_false, List.mem_cons]
      rintro p (rfl | hp)
      exacts [hk, ih p hp]

/-- Setting an index keeps the canonical form. -/
theorem Table.wf_put [DecidableEq α] (h : Table.wf d t) : Table.wf d (Table.put d i v t) := by
  unfold Table.put
  split
  · exact Table.wf_erase h
  · exact Table.wf_insert ‹_› (Table.wf_erase h) Table.not_mem_erase

theorem Table.mem_erase {p : Nat × α} (h : p ∈ Table.erase i t) : p ∈ t := by
  induction t with
  | nil => simp [Table.erase] at h
  | cons q t ih =>
    obtain ⟨k, w⟩ := q
    by_cases hk : k = i
    · exact List.mem_cons_of_mem _ (ih (by simpa [Table.erase, hk] using h))
    · simp only [Table.erase, hk, if_false, List.mem_cons] at h ⊢
      exact h.imp id ih

theorem Table.mem_insert {p : Nat × α} (h : p ∈ Table.insert i v t) : p = (i, v) ∨ p ∈ t := by
  induction t with
  | nil => simpa [Table.insert] using h
  | cons q t ih =>
    obtain ⟨k, w⟩ := q
    by_cases hk : i < k
    · simpa [Table.insert, hk] using h
    · simp only [Table.insert, hk, if_false, List.mem_cons] at h ⊢
      rcases h with h | h
      · exact .inr (.inl h)
      · exact (ih h).imp id .inr

/-- An entry of a table after a write is the entry written, with a value that is listed, or one from before. -/
theorem Table.mem_put [DecidableEq α] {p : Nat × α} (h : p ∈ Table.put d i v t) : (p = (i, v) ∧ v ≠ d) ∨ p ∈ t := by
  unfold Table.put at h
  split at h
  · exact .inr (Table.mem_erase h)
  · exact (Table.mem_insert h).imp (fun e => ⟨e, ‹_›⟩) Table.mem_erase

/-- An index that does not read as the value of an unlisted one is listed. -/
theorem Table.mem_of_get_ne (h : Table.get d t i ≠ d) : (i, Table.get d t i) ∈ t := by
  induction t with
  | nil => simp [Table.get] at h
  | cons p t ih =>
    obtain ⟨k, w⟩ := p
    by_cases hk : k = i
    · simp [Table.get, hk]
    · simp only [Table.get, hk, if_false] at h ⊢
      exact List.mem_cons_of_mem _ (ih h)

/-- A canonical table lists no value that an unlisted index reads as. -/
theorem Table.ne_of_mem [DecidableEq α] {p : Nat × α} (h : Table.wf d t) (hp : p ∈ t) : p.2 ≠ d := by
  induction t with
  | nil => simp at hp
  | cons q t ih =>
    obtain ⟨k, w⟩ := q
    simp only [Table.wf, Bool.and_eq_true, decide_eq_true_eq] at h
    rcases List.mem_cons.mp hp with rfl | hp
    exacts [h.1.1, ih h.2 hp]

/-- In a canonical table a listed entry is what its index reads as. -/
theorem Table.get_of_mem [DecidableEq α] (h : Table.wf d t) (hm : (i, v) ∈ t) : Table.get d t i = v := by
  induction t with
  | nil => simp at hm
  | cons p t ih =>
    obtain ⟨k, w⟩ := p
    simp only [Table.wf, Bool.and_eq_true, decide_eq_true_eq] at h
    rcases List.mem_cons.mp hm with e | hm
    · cases e; simp [Table.get]
    · have hki : k ≠ i := by
        rintro rfl
        have ha := Table.get_of_above (d := d) h.1.2
        have := ih h.2 hm
        rw [ha] at this
        exact Table.ne_of_mem h.2 hm this.symm
      simpa [Table.get, hki] using ih h.2 hm

theorem Table.erase_erase : Table.erase i (Table.erase i t) = Table.erase i t := by
  induction t with
  | nil => rfl
  | cons p t ih =>
    obtain ⟨k, w⟩ := p
    by_cases hk : k = i <;> simp [Table.erase, hk, ih]

theorem Table.erase_insert : Table.erase i (Table.insert i v t) = Table.erase i t := by
  induction t with
  | nil => simp [Table.insert, Table.erase]
  | cons p t ih =>
    obtain ⟨k, w⟩ := p
    by_cases hk : i < k
    · simp [Table.insert, hk, Table.erase]
    · simp [Table.insert, hk, Table.erase, ih]

/-- Of two writes to one index the later stands. -/
theorem Table.put_put [DecidableEq α] {w : α} : Table.put d i w (Table.put d i v t) = Table.put d i w t := by
  have h : Table.erase i (Table.put d i v t) = Table.erase i t := by
    unfold Table.put
    split
    · exact Table.erase_erase
    · rw [Table.erase_insert, Table.erase_erase]
  unfold Table.put at h ⊢
  rw [h]

end Sparse

/-! ## Fixed tables -/

@[simp] theorem mapAll_get {α β : Type} {n : Nat} (f : α → β) (v : Vector α n) (i : Nat) (h : i < n) :
    (mapAll f v)[i] = f v[i] := by simp [mapAll]

/-! ## Lanes, modules, elements -/

variable (s : State)

@[simp] theorem State.lane_setLane (l : Fin 8) (x : Lane) : (s.setLane l x).lane l = x := by
  simp [State.lane]

theorem State.lane_setLane_of_ne {k l : Fin 8} (h : k ≠ l) (x : Lane) : (s.setLane l x).lane k = s.lane k := by
  have : (l : Nat) ≠ k := fun e => h (Fin.ext e.symm)
  simp [State.lane, this]

@[simp] theorem State.module_setModule (m : ModuleIx) (x : Module) : (s.setModule m x).module m = x := by
  simp [State.module]

theorem State.module_setModule_of_ne {k m : ModuleIx} (h : k ≠ m) (x : Module) :
    (s.setModule m x).module k = s.module k := by
  have : (m : Nat) ≠ k := fun e => h (Fin.ext e.symm)
  simp [State.module, this]

@[simp] theorem State.element_setElement (i : Nat) (e : Element) : (s.setElement i e).element i = e :=
  Table.get_put_self

theorem State.element_setElement_of_ne {i j : Nat} (h : j ≠ i) (e : Element) :
    (s.setElement i e).element j = s.element j := Table.get_put_of_ne h

@[simp] theorem State.element_setControl (i : Nat) (c : Control) :
    (s.setControl i c).element i = { s.element i with control := c } := Table.get_put_self

theorem State.element_setControl_of_ne {i j : Nat} (h : j ≠ i) (c : Control) :
    (s.setControl i c).element j = s.element j := Table.get_put_of_ne h

@[simp] theorem State.setLane_setLane (l : Fin 8) (x y : Lane) : (s.setLane l x).setLane l y = s.setLane l y := by
  simp [State.setLane]

@[simp] theorem State.setModule_setModule (m : ModuleIx) (x y : Module) :
    (s.setModule m x).setModule m y = s.setModule m y := by
  simp [State.setModule]

@[simp] theorem State.setElement_setElement (i : Nat) (x y : Element) :
    (s.setElement i x).setElement i y = s.setElement i y := by
  simp only [State.setElement, Table.put_put]

@[simp] theorem State.setControl_setControl (i : Nat) (x y : Control) :
    (s.setControl i x).setControl i y = s.setControl i y := by
  have h : (s.setControl i x).setControl i y = (s.setControl i x).setElement i { s.element i with control := y } := by
    rw [State.setControl, State.element_setControl]
  rw [h]
  simp only [State.setControl, State.setElement_setElement]

/-- A lane and a class part are written in either order. -/
theorem State.setLane_setControl (l : Fin 8) (x : Lane) (i : Nat) (c : Control) :
    (s.setControl i c).setLane l x = (s.setLane l x).setControl i c := rfl

/-- A module and a class part are written in either order. -/
theorem State.setModule_setControl (m : ModuleIx) (x : Module) (i : Nat) (c : Control) :
    (s.setControl i c).setModule m x = (s.setModule m x).setControl i c := rfl

theorem State.lane_congr {s t : State} (h : t.lanes = s.lanes) (l : Fin 8) : t.lane l = s.lane l := by
  simp [State.lane, h]

theorem State.module_congr {s t : State} (h : t.modules = s.modules) (m : ModuleIx) : t.module m = s.module m := by
  simp [State.module, h]

theorem State.element_congr {s t : State} (h : t.elements = s.elements) (i : Nat) : t.element i = s.element i := by
  simp [State.element, h]

/-- The empty table, which is the table of the reset state, is canonical. -/
theorem State.reset_elements_wf : Table.wf Element.cold State.reset.elements := rfl

end Sys2Proof.Machine
end

