-- ==== Sys2Proof/Laws/Operations.lean ====
section
/-! SUPPORT. What the shared operations can do, one lemma each: a changed context, the untaken notices, a notice handed
over, the watching of an Indicator frame and the owed pass. -/

namespace Sys2Proof.Machine

variable {s : State} {i : Nat}

/-! ## Contexts -/

theorem State.updKey_of_key {p : KeyParams} {c : KeyCtx} (h : (s.element i).control = .key p c) (f : KeyCtx → KeyCtx) :
    s.updKey i f = s.setControl i (.key p (f c)) := by simp [State.updKey, h]

theorem State.updEncoder_of_encoder {p : EncoderParams} {c : EncoderCtx} (h : (s.element i).control = .encoder p c)
    (f : EncoderCtx → EncoderCtx) : s.updEncoder i f = s.setControl i (.encoder p (f c)) := by simp [State.updEncoder, h]

theorem State.updLevel_of_level {p : LevelParams} {c : LevelCtx} (h : (s.element i).control = .level p c)
    (f : LevelCtx → LevelCtx) : s.updLevel i f = s.setControl i (.level p (f c)) := by simp [State.updLevel, h]

/-- An element after a change of every class part that leaves Ignore elements alone. -/
theorem State.element_mapControls {f : Nat → Control → Control} (hf : ∀ i, f i .ignore = .ignore) (s : State) (i : Nat) :
    (s.mapControls f).element i = { s.element i with control := f i (s.element i).control } := by
  have get : ∀ t : List (Nat × Element),
      Table.get Element.cold (t.map fun p => (p.1, { p.2 with control := f p.1 p.2.control })) i =
        { Table.get Element.cold t i with control := f i (Table.get Element.cold t i).control } := by
    intro t
    induction t with
    | nil => simp [Table.get, Element.cold, hf]
    | cons p t ih =>
      obtain ⟨j, e⟩ := p
      simp only [List.map_cons, Table.get]
      split
      · subst j; rfl
      · exact ih
  exact get s.elements

/-! ## Room -/

theorem State.room_iff (s : State) (l : Fin 8) : s.room l = true ↔
    (s.lane l).fifo.length < (s.lane l).entry.quota ∧ s.queued + s.noticeInFlight < 128 := by
  simp [State.room, State.freeSlots, Config.poolSlots]

theorem State.outboundRoom_iff (s : State) : s.outboundRoom = true ↔ s.outbound.length < 32 := by
  simp [State.outboundRoom, State.outboundFree, Config.outboundEntries]

/-! ## Untaken notices -/

theorem State.hasUntaken_iff (s : State) (p : Notice → Bool) :
    s.hasUntaken p = true ↔ ∃ l, ∃ n ∈ (s.lane l).fifo, p n = true := by
  simp [State.hasUntaken, State.laneWith, allLanes, List.find?_isSome]

theorem State.isFor_iff (s : State) (i : Nat) (k : NoticeKind) (n : Notice) : s.isFor i k n = true ↔
    n.index = some i ∧ n.kind = k ∧
      ∃ m, s.bound i = some m ∧ n.module = m.val + 1 ∧ n.element = i - (s.module m).entry.base := by
  unfold State.isFor
  cases s.bound i <;> simp [ModuleIx.addr, State.numberIn, and_assoc]

/-- The first notice of a list with the property, and what is changed at it. -/
theorem changeFirst_of_find {p : Notice → Bool} (f : Notice → Notice) {ns : List Notice} {n : Notice}
    (h : ns.find? p = some n) : ∃ a b, ns = a ++ n :: b ∧ p n = true ∧ (∀ x ∈ a, p x = false) ∧
      changeFirst p f ns = a ++ f n :: b := by
  induction ns with
  | nil => cases h
  | cons x ns ih =>
    rw [List.find?_cons] at h
    split at h
    · rename_i hx
      cases h
      exact ⟨[], ns, rfl, hx, by simp, by simp [changeFirst, hx]⟩
    · rename_i hx
      obtain ⟨a, b, h1, h2, h3, h4⟩ := ih h
      refine ⟨x :: a, b, by simp [h1], h2, fun y hy => ?_, by simp [changeFirst, hx, h4]⟩
      rcases List.mem_cons.mp hy with rfl | hy
      exacts [hx, h3 y hy]

/-! ## A notice handed over -/

/-- A notice of a key leaves it as it is but for its stale flag (R102). -/
theorem notify_key {p : KeyParams} {c : KeyCtx} {n : Notice} (hn : n.index = some i)
    (h : (s.element i).control = .key p c) :
    ∃ b, ((notify n s).element i).control = .key p { c with stale := b } := by
  have stale : ∃ b, (((s.countOverflow n.lane).setStale i).element i).control = .key p { c with stale := b } := by
    have h' : ((s.countOverflow n.lane).element i).control = .key p c := h
    exact ⟨true, by simp [State.setStale, h']⟩
  unfold notify
  split
  · exact ⟨c.stale, h⟩
  · unfold noticeLost
    rw [hn]
    cases n.kind <;> simp only <;> first | exact stale | exact ⟨c.stale, h⟩ | (split; exacts [stale, ⟨c.stale, h⟩])

theorem giveNotice_key {p : KeyParams} {c : KeyCtx} (h : (s.element i).control = .key p c) (k : NoticeKind) (v : Int)
    (z : Option Zone) (f : Flags) :
    ∃ b, ((giveNotice i k v z f s).element i).control = .key p { c with stale := b } := by
  unfold giveNotice State.elementNotice
  cases s.bound i
  exacts [⟨c.stale, h⟩, notify_key rfl h]

/-! ## The merger -/

/-- An element after an Indicator frame is watched (R137). -/
theorem watchIndicator_element (a : BitVec 6) (n : Nat) (on : Bool) (x : Option Nat) (s : State) (i : Nat) :
    (watchIndicator a n on x s).element i = { s.element i with
      control := if x ≠ some i ∧ s.matchesIndicator a n i (s.element i).control then watchedKey on (s.element i).control
        else (s.element i).control } :=
  State.element_mapControls (f := fun i c => if x ≠ some i ∧ s.matchesIndicator a n i c then watchedKey on c else c)
    (fun i => by simp [watchedKey]) s i

/-- The owed pass goes on from a frame it has queued (R136). -/
theorem owedPass_of_frame {t : State} (hs : s.outbound.length < 32) (h : owedFrame s = some t)
    (ht : t.outbound.length = s.outbound.length + 1) : owedPass s = owedPass t := by
  obtain ⟨n, hn⟩ : ∃ n, 32 - s.outbound.length = n + 1 := ⟨31 - s.outbound.length, by omega⟩
  have hk : 32 - (s.outbound.length + 1) = n := by omega
  unfold owedPass State.outboundFree
  simp only [ht, Config.outboundEntries, hn, hk, owedFrames]
  rw [if_pos (s.outboundRoom_iff.mpr hs), h]

/-- The owed pass ends with nothing owed, or no free entry (R136). -/
theorem owedPass_ends (h : owedFrame s = none ∨ 32 ≤ s.outbound.length) : owedPass s = s := by
  unfold owedPass
  cases s.outboundFree with
  | zero => rfl
  | succ n =>
    unfold owedFrames
    rcases h with h | h
    · simp [h]
    · rw [if_neg (by rw [State.outboundRoom_iff]; omega)]

end Sys2Proof.Machine
end

