-- ==== Sys2Proof/Laws/Frames.lean ====
section
/-! SUPPORT. What the notice queue, the merger, the element processor, the sweep assembler and the capture ring leave
alone: the desk of a state. One lemma for each operation. -/

namespace Sys2Proof.Machine

/-- The parts of a state that no element, notice, sweep, frame to the chain or capture entry changes. -/
structure Desk where
  settings       : Settings
  profiles       : Vector Profile 8
  lanes          : Vector (LaneEntry × Timer × Bool) 8
  surfaceFramer  : Framer
  consoleFramer  : Framer
  pauseIn        : Bool
  consoleRx      : Line
  detector       : Detector
  powerReset     : Bool
  consoleTx      : Option ConsoleFrame
  burst          : Nat
  passQueue      : List Frame
  stack          : List (Fin 8)
  surfaceSending : Bool
  requests       : List Request
  head           : HeadCondition
  replies        : List Reply
  resetCause     : Cause
  pending        : List Instr

/-- The desk of a state; of a lane it holds the entry, the service timer and the overdue mark. -/
def State.desk (s : State) : Desk :=
  ⟨s.settings, s.profiles, mapAll (fun x => (x.entry, x.timer, x.overdue)) s.lanes, s.surfaceFramer, s.consoleFramer,
    s.pauseIn, s.consoleRx, s.detector, s.powerReset, s.consoleTx, s.burst, s.passQueue, s.stack, s.surfaceSending,
    s.requests, s.head, s.replies, s.resetCause, s.pending⟩

/-! ## What equal desks share -/

section Shared
variable {s t : State} (h : t.desk = s.desk)
include h

theorem State.settings_of_desk : t.settings = s.settings := congrArg Desk.settings h
theorem State.profiles_of_desk : t.profiles = s.profiles := congrArg Desk.profiles h
theorem State.surfaceFramer_of_desk : t.surfaceFramer = s.surfaceFramer := congrArg Desk.surfaceFramer h
theorem State.consoleFramer_of_desk : t.consoleFramer = s.consoleFramer := congrArg Desk.consoleFramer h
theorem State.pauseIn_of_desk : t.pauseIn = s.pauseIn := congrArg Desk.pauseIn h
theorem State.consoleRx_of_desk : t.consoleRx = s.consoleRx := congrArg Desk.consoleRx h
theorem State.detector_of_desk : t.detector = s.detector := congrArg Desk.detector h
theorem State.powerReset_of_desk : t.powerReset = s.powerReset := congrArg Desk.powerReset h
theorem State.consoleTx_of_desk : t.consoleTx = s.consoleTx := congrArg Desk.consoleTx h
theorem State.burst_of_desk : t.burst = s.burst := congrArg Desk.burst h
theorem State.passQueue_of_desk : t.passQueue = s.passQueue := congrArg Desk.passQueue h
theorem State.stack_of_desk : t.stack = s.stack := congrArg Desk.stack h
theorem State.surfaceSending_of_desk : t.surfaceSending = s.surfaceSending := congrArg Desk.surfaceSending h
theorem State.requests_of_desk : t.requests = s.requests := congrArg Desk.requests h
theorem State.head_of_desk : t.head = s.head := congrArg Desk.head h
theorem State.replies_of_desk : t.replies = s.replies := congrArg Desk.replies h
theorem State.resetCause_of_desk : t.resetCause = s.resetCause := congrArg Desk.resetCause h
theorem State.pending_of_desk : t.pending = s.pending := congrArg Desk.pending h

theorem State.lane_of_desk (l : Fin 8) :
    (t.lane l).entry = (s.lane l).entry ∧ (t.lane l).timer = (s.lane l).timer ∧
      (t.lane l).overdue = (s.lane l).overdue := by
  have h1 := congrArg (fun u : Desk => u.lanes[l]) h
  simp only [State.desk, Fin.getElem_fin, mapAll_get, Prod.mk.injEq] at h1
  exact h1

theorem State.holding_of_desk : t.holding = s.holding := by
  simp [State.holding, State.powerReset_of_desk h, State.detector_of_desk h]

end Shared

/-! ## Updates -/

theorem foldl_desk {α : Type} {f : State → α → State} (h : ∀ s a, (f s a).desk = s.desk) (l : List α) (s : State) :
    (l.foldl f s).desk = s.desk := by
  induction l generalizing s with
  | nil => rfl
  | cons a l ih => rw [List.foldl_cons, ih, h]

variable (s : State) (i : Nat) (m : ModuleIx)

theorem setLane_desk (l : Fin 8) (x : Lane) (he : x.entry = (s.lane l).entry) (ht : x.timer = (s.lane l).timer)
    (ho : x.overdue = (s.lane l).overdue) : (s.setLane l x).desk = s.desk := by
  have : mapAll (fun x : Lane => (x.entry, x.timer, x.overdue)) (s.lanes.set l x) =
      mapAll (fun x : Lane => (x.entry, x.timer, x.overdue)) s.lanes := by
    apply Vector.ext
    intro k hk
    rw [mapAll_get, mapAll_get]
    by_cases hl : l.val = k
    · subst hl
      simp only [State.lane, Fin.getElem_fin] at he ht ho
      simp [he, ht, ho]
    · simp [hl]
  simp only [State.desk, State.setLane, this]

@[simp] theorem setModule_desk (x : Module) : (s.setModule m x).desk = s.desk := rfl
@[simp] theorem updModule_desk (f : Module → Module) : (s.updModule m f).desk = s.desk := rfl
@[simp] theorem updSweep_desk (f : OpenSweep → OpenSweep) : (s.updSweep m f).desk = s.desk := rfl
@[simp] theorem setMark_desk (k : Mark) : (s.setMark m k).desk = s.desk := rfl
@[simp] theorem setElement_desk (e : Element) : (s.setElement i e).desk = s.desk := rfl
@[simp] theorem setControl_desk (c : Control) : (s.setControl i c).desk = s.desk := rfl
@[simp] theorem mapControls_desk (f : Nat → Control → Control) : (s.mapControls f).desk = s.desk := rfl
@[simp] theorem pushOut_desk (f : Frame) (b : Bool) : (s.pushOut f b).desk = s.desk := rfl
@[simp] theorem countFrameError_desk (p : Port) : (s.countFrameError p).desk = s.desk := by cases p <;> rfl
@[simp] theorem countMisaddressed_desk : s.countMisaddressed.desk = s.desk := rfl
@[simp] theorem countRangeError_desk : s.countRangeError.desk = s.desk := rfl
@[simp] theorem countDiscarded_desk : s.countDiscarded.desk = s.desk := rfl
@[simp] theorem countPassDrop_desk : s.countPassDrop.desk = s.desk := rfl
@[simp] theorem countOutboundDrop_desk : s.countOutboundDrop.desk = s.desk := rfl
@[simp] theorem countRequestDrop_desk : s.countRequestDrop.desk = s.desk := rfl
@[simp] theorem countSystemLost_desk : s.countSystemLost.desk = s.desk := rfl

@[simp] theorem updKey_desk (f : KeyCtx → KeyCtx) : (s.updKey i f).desk = s.desk := by
  unfold State.updKey; split <;> rfl
@[simp] theorem updEncoder_desk (f : EncoderCtx → EncoderCtx) : (s.updEncoder i f).desk = s.desk := by
  unfold State.updEncoder; split <;> rfl
@[simp] theorem updLevel_desk (f : LevelCtx → LevelCtx) : (s.updLevel i f).desk = s.desk := by
  unfold State.updLevel; split <;> rfl

/-! ## The notice queue -/

@[simp] theorem pushNotice_desk (n : Notice) : (s.pushNotice n).desk = s.desk := setLane_desk _ _ _ rfl rfl rfl
@[simp] theorem countOverflow_desk (l : Fin 8) : (s.countOverflow l).desk = s.desk := setLane_desk _ _ _ rfl rfl rfl
@[simp] theorem setStale_desk : (s.setStale i).desk = s.desk := by unfold State.setStale; split <;> rfl
@[simp] theorem noticeLost_desk (n : Notice) : (noticeLost n s).desk = s.desk := by
  unfold noticeLost; repeat' split
  all_goals simp
@[simp] theorem notify_desk (n : Notice) : (notify n s).desk = s.desk := by unfold notify; split <;> simp
@[simp] theorem giveNotice_desk (k : NoticeKind) (v : Int) (z : Option Zone) (f : Flags) :
    (giveNotice i k v z f s).desk = s.desk := by unfold giveNotice; split <;> simp
@[simp] theorem amend_desk (p : Notice → Bool) (f : Notice → Notice) : (amend p f s).desk = s.desk := by
  unfold amend; split
  exacts [setLane_desk _ _ _ rfl rfl rfl, rfl]
@[simp] theorem oweCarry_desk (r : Int) : (oweCarry i r s).desk = s.desk := updEncoder_desk _ _ _
@[simp] theorem placeTurn_desk (d : Int) : (placeTurn i d s).desk = s.desk := by
  unfold placeTurn; repeat' split
  all_goals simp
@[simp] theorem pushOwed_desk (k : NoticeKind) (v : Int) (z : Option Zone) (f : Flags) :
    (pushOwed i k v z f s).desk = s.desk := by unfold pushOwed; split <;> simp
@[simp] theorem serveElement_desk : (serveElement i s).desk = s.desk := by
  unfold serveElement; repeat' split
  all_goals simp
@[simp] theorem serveLane_desk (l : Fin 8) (is : List Nat) : (serveLane l is s).desk = s.desk := by
  induction is generalizing s with
  | nil => rfl
  | cons i is ih => unfold serveLane; repeat' split
                    all_goals simp [ih]
@[simp] theorem serveOverflow_desk : (serveOverflow s).desk = s.desk := by
  unfold serveOverflow; split
  · have h := pushNotice_desk s (systemNotice .overflow 0 0 s.systemLost)
    simp only [State.desk] at h ⊢
    exact h
  · rfl
@[simp] theorem servicePass_desk : (servicePass s).desk = s.desk := by
  unfold servicePass; rw [foldl_desk fun s l => serveLane_desk s l _]; simp

/-! ## The merger -/

@[simp] theorem watchIndicator_desk (a : BitVec 6) (n : Nat) (on : Bool) (e : Option Nat) :
    (watchIndicator a n on e s).desk = s.desk := rfl
@[simp] theorem pushIndicator_desk (n : Fin 64) (on : Bool) : (pushIndicator m n on i s).desk = s.desk := rfl
@[simp] theorem requestPace_desk : (requestPace s).desk = s.desk := by unfold requestPace; split <;> rfl
@[simp] theorem requestResync_desk : (requestResync m s).desk = s.desk := by unfold requestResync; split <;> rfl
@[simp] theorem requestEcho_desk : (requestEcho i s).desk = s.desk := by
  unfold requestEcho; repeat' split
  all_goals simp
@[simp] theorem requestOff_desk (n : Fin 64) : (requestOff m n i s).desk = s.desk := by
  unfold requestOff; split <;> simp
@[simp] theorem setChainPace_desk (p : Pace) : (setChainPace p s).desk = s.desk := by
  unfold setChainPace; split <;> simp only [State.desk]
@[simp] theorem toldApplied_desk (b : Bool) : (toldApplied b s).desk = s.desk := by
  unfold toldApplied; repeat' split
  all_goals simp
@[simp] theorem toldJoined_desk : (toldJoined s).desk = s.desk := by unfold toldJoined; split <;> simp
@[simp] theorem mergeFrame_desk (f : Frame) : (mergeFrame f s).desk = s.desk := by unfold mergeFrame; split <;> simp
@[simp] theorem mergeIndicator_desk (f : Frame) (n mo : Byte) : (mergeIndicator f n mo s).desk = s.desk := by
  unfold mergeIndicator; split <;> simp
@[simp] theorem mergePace_desk (f : Frame) (p : Byte) : (mergePace f p s).desk = s.desk := by
  unfold mergePace; split
  · exact (setChainPace_desk _ _).trans (pushOut_desk _ _ _)
  · simp
theorem owedFrame_desk {s t : State} (h : owedFrame s = some t) : t.desk = s.desk := by
  unfold owedFrame at h
  repeat' split at h
  all_goals first | (cases h; first | rfl | simp) | cases h
@[simp] theorem owedFrames_desk (n : Nat) : (owedFrames n s).desk = s.desk := by
  induction n generalizing s with
  | zero => rfl
  | succ n ih =>
    unfold owedFrames; repeat' split
    · rw [ih]; exact owedFrame_desk ‹_›
    all_goals rfl
@[simp] theorem owedPass_desk : (owedPass s).desk = s.desk := owedFrames_desk _ _

/-! ## The element processor -/

@[simp] theorem echoAct_desk : (echoAct i s).desk = s.desk := by
  unfold echoAct; repeat' split
  all_goals try dsimp only
  all_goals simp
@[simp] theorem startRepeat_desk : (startRepeat i s).desk = s.desk := by
  unfold startRepeat; repeat' split
  all_goals simp
@[simp] theorem giveRepeat_desk : (giveRepeat i s).desk = s.desk := by unfold giveRepeat; split <;> simp
@[simp] theorem repeatExpiry_desk : (repeatExpiry i s).desk = s.desk := by
  unfold repeatExpiry; repeat' split
  all_goals simp
@[simp] theorem keyReport_desk (v : Bool) : (keyReport i v s).desk = s.desk := by
  unfold keyReport; repeat' split
  all_goals try dsimp only
  all_goals simp
@[simp] theorem acceptPress_desk : (acceptPress i s).desk = s.desk := by
  unfold acceptPress; repeat' split
  all_goals try dsimp only
  all_goals simp
@[simp] theorem acceptRelease_desk : (acceptRelease i s).desk = s.desk := by
  unfold acceptRelease; repeat' split
  all_goals try dsimp only
  all_goals simp
@[simp] theorem debounce_desk : (debounce i s).desk = s.desk := by
  unfold debounce; repeat' split
  all_goals simp
@[simp] theorem keyBaseline_desk (v : Bool) : (keyBaseline i v s).desk = s.desk := by
  unfold keyBaseline; split
  · dsimp only; repeat' split
    all_goals simp
  · rfl
@[simp] theorem keyNoBaseline_desk : (keyNoBaseline i s).desk = s.desk := updKey_desk _ _ _
@[simp] theorem releaseKey_desk (f : Flags) : (releaseKey i f s).desk = s.desk := by
  unfold releaseKey; repeat' split
  all_goals try dsimp only
  all_goals simp
@[simp] theorem drainStale_desk : (drainStale i s).desk = s.desk := by
  unfold drainStale; repeat' split
  all_goals simp
@[simp] theorem drainEcho_desk : (drainEcho i s).desk = s.desk := by
  unfold drainEcho; repeat' split
  all_goals try dsimp only
  all_goals simp
@[simp] theorem loseKey_desk : (loseKey i s).desk = s.desk := releaseKey_desk _ _ _
@[simp] theorem drainKey_desk : (drainKey i s).desk = s.desk := by simp [drainKey]

@[simp] theorem encoderReport_desk (v : Word) : (encoderReport i v s).desk = s.desk := by
  unfold encoderReport; split
  · dsimp only; split <;> simp
  · rfl
@[simp] theorem encoderBaseline_desk (v : Word) : (encoderBaseline i v s).desk = s.desk := updEncoder_desk _ _ _
@[simp] theorem clearSub_desk : (clearSub i s).desk = s.desk := updEncoder_desk _ _ _
@[simp] theorem updateZone_desk (v : Nat) : (updateZone i v s).desk = s.desk := by
  unfold updateZone; split
  · dsimp only; split <;> simp
  · rfl
@[simp] theorem replaceLevel_desk (v : Nat) (z : Zone) : (replaceLevel i v z s).desk = s.desk := by simp [replaceLevel]
@[simp] theorem giveLevel_desk (v : Nat) (z : Zone) (f : Flags) (a b : Timer) :
    (giveLevel i v z f a b s).desk = s.desk := by
  unfold giveLevel; repeat' split
  all_goals simp
@[simp] theorem judgeLevel_desk (v : Nat) : (judgeLevel i v s).desk = s.desk := by
  unfold judgeLevel; repeat' split
  all_goals simp
@[simp] theorem levelReport_desk (v : Nat) : (levelReport i v s).desk = s.desk := by
  unfold levelReport; repeat' split
  all_goals try (dsimp only; repeat' split)
  all_goals simp
@[simp] theorem paceExpiry_desk : (paceExpiry i s).desk = s.desk := by
  unfold paceExpiry; repeat' split
  all_goals try dsimp only
  all_goals simp
@[simp] theorem levelBaseline_desk (v : Nat) : (levelBaseline i v s).desk = s.desk := by
  unfold levelBaseline; repeat' split
  all_goals try (dsimp only; repeat' split)
  all_goals simp
@[simp] theorem loseLevel_desk : (loseLevel i s).desk = s.desk := updLevel_desk _ _ _
@[simp] theorem giveRaw_desk (v : Word) (f : Flags) : (giveRaw i v f s).desk = s.desk := by simp [giveRaw]
@[simp] theorem reportValue_desk (v : Word) : (reportValue i v s).desk = s.desk := by
  unfold reportValue; repeat' split
  all_goals simp
@[simp] theorem baseline_desk (v : Word) : (baseline i v s).desk = s.desk := by
  unfold baseline; repeat' split
  all_goals simp
@[simp] theorem loseElement_desk : (loseElement i s).desk = s.desk := by unfold loseElement; split <;> simp
@[simp] theorem drainElement_desk : (drainElement i s).desk = s.desk := by unfold drainElement; split <;> simp

/-! ## The capture ring -/

@[simp] theorem captureOverflow_desk (k : Mark) : (captureOverflow m k s).desk = s.desk := by
  simp only [captureOverflow, State.desk]
@[simp] theorem captureReport_desk (e : Byte) (v : Word) : (captureReport m e v s).desk = s.desk := by
  unfold captureReport; repeat' split
  all_goals first | simp; done | simp only [State.desk]
@[simp] theorem captureSweep_desk (n : Byte) (o : SweepOutcome) : (captureSweep m n o s).desk = s.desk := by
  unfold captureSweep; repeat' split
  all_goals first | simp; done | simp only [State.desk]
@[simp] theorem captureControl_desk (e : Bool) (f : Option ModuleIx) (c : Bool) :
    (captureControl e f c s).desk = s.desk := by
  unfold captureControl captureRestart; dsimp only; repeat' split
  all_goals simp only [State.desk]

/-! ## The sweep assembler -/

@[simp] theorem takeEntry_desk (r : ReportEntry) : (takeEntry m r s).desk = s.desk := by
  unfold takeEntry; dsimp only; repeat' split
  all_goals simp
@[simp] theorem takeReport_desk (es : List ReportEntry) : (takeReport m es s).desk = s.desk := by
  unfold takeReport; split <;> first | rfl | exact foldl_desk (fun s r => takeEntry_desk s m r) _ _
@[simp] theorem startWatchdog_desk : (startWatchdog m s).desk = s.desk := rfl
@[simp] theorem discardSweep_desk : (discardSweep m s).desk = s.desk := rfl
@[simp] theorem countRejected_desk : (countRejected m s).desk = s.desk := rfl
@[simp] theorem countDuplicate_desk : (countDuplicate m s).desk = s.desk := rfl
@[simp] theorem countGap_desk : (countGap m s).desk = s.desk := rfl
@[simp] theorem updateView_desk : (updateView m s).desk = s.desk := by unfold updateView; split <;> rfl
@[simp] theorem applySweep_desk (n : Byte) : (applySweep m n s).desk = s.desk := by
  unfold applySweep; dsimp only
  rw [toldApplied_desk, updModule_desk, foldl_desk fun t i => debounce_desk t i, foldl_desk fun t x => reportValue_desk t _ _]
@[simp] theorem sweepEndActive_desk (n c : Byte) : (sweepEndActive m n c s).desk = s.desk := by
  unfold sweepEndActive; dsimp only; split <;> simp
@[simp] theorem joinModule_desk (n : Byte) : (joinModule m n s).desk = s.desk := by
  unfold joinModule; dsimp only
  rw [captureSweep_desk, toldJoined_desk, discardSweep_desk, foldl_desk fun t e => baseline_desk t _ _]; simp
@[simp] theorem sweepEndWaiting_desk (n c f : Byte) : (sweepEndWaiting m n c f s).desk = s.desk := by
  unfold sweepEndWaiting; split <;> simp
@[simp] theorem sweepEndSilent_desk (n : Byte) : (sweepEndSilent m n s).desk = s.desk := by simp [sweepEndSilent]
@[simp] theorem sweepEndDraining_desk (n : Byte) : (sweepEndDraining m n s).desk = s.desk := by simp [sweepEndDraining]
@[simp] theorem takeSweepEnd_desk (n c f : Byte) : (takeSweepEnd m n c f s).desk = s.desk := by
  unfold takeSweepEnd; split <;> simp
@[simp] theorem dropSweep_desk : (dropSweep m s).desk = s.desk := rfl
@[simp] theorem watchdogLoss_desk : (watchdogLoss m s).desk = s.desk := by
  unfold watchdogLoss; dsimp only
  rw [foldl_desk fun t i => loseElement_desk t i]; simp
@[simp] theorem resetContext_desk : (resetContext i s).desk = s.desk := rfl
@[simp] theorem offAtReset_desk : (offAtReset m i s).desk = s.desk := by
  unfold offAtReset; repeat' split
  all_goals simp
@[simp] theorem resetRange_desk (e : ModuleEntry) : (resetRange e s).desk = s.desk := by
  unfold resetRange; split
  exacts [foldl_desk (fun t i => resetContext_desk t i) _ _, rfl]
@[simp] theorem resetBoundRange_desk (e : ModuleEntry) : (resetBoundRange m e s).desk = s.desk := by
  unfold resetBoundRange; split
  exacts [foldl_desk (fun t i => (resetContext_desk _ i).trans (offAtReset_desk t i m)) _ _, rfl]
@[simp] theorem enterMapped_desk (e : ModuleEntry) : (enterMapped m e s).desk = s.desk := by
  unfold enterMapped; dsimp only; split <;> simp
@[simp] theorem installAtOnce_desk (e : ModuleEntry) : (installAtOnce m e s).desk = s.desk := by simp [installAtOnce]
@[simp] theorem enterDraining_desk : (enterDraining m s).desk = s.desk := by
  unfold enterDraining; dsimp only
  rw [servicePass_desk, foldl_desk fun t i => drainElement_desk t i]; simp
@[simp] theorem completeFlush_desk (e : ModuleEntry) : (completeFlush m e s).desk = s.desk := by simp [completeFlush]

/-! ## Writing an element -/

@[simp] theorem writeAtRest_desk (l : Fin 8) (c : Control) : (writeAtRest i l c s).desk = s.desk := by
  unfold writeAtRest; dsimp only; split <;> simp
@[simp] theorem dropEcho_desk (o : KeyParams) (c : KeyCtx) : (dropEcho i o c s).desk = s.desk := by
  unfold dropEcho; dsimp only; repeat' split
  all_goals simp
@[simp] theorem retuneEcho_desk (o n : KeyParams) (c : KeyCtx) : (retuneEcho i o n c s).desk = s.desk := by
  unfold retuneEcho; repeat' split
  all_goals simp
@[simp] theorem writeKeyInPlace_desk (o n : KeyParams) (c : KeyCtx) : (writeKeyInPlace i o n c s).desk = s.desk := by
  unfold writeKeyInPlace; dsimp only; split <;> simp
theorem writeInPlace_desk {s t : State} {i : Nat} {c : Control} (h : writeInPlace i c s = some t) : t.desk = s.desk := by
  unfold writeInPlace at h
  split at h <;> split at h <;> simp only [Option.some.injEq, reduceCtorEq] at h <;> subst h <;> simp
theorem writeElementEntry_desk {s t : State} {i : Nat} {l : Fin 8} {c : Control}
    (h : writeElementEntry i l c s = some t) : t.desk = s.desk := by
  unfold writeElementEntry at h
  repeat' split at h
  · exact writeInPlace_desk h
  all_goals first | (cases h; simp) | cases h

end Sys2Proof.Machine
end

