-- ==== Sys2Proof/Laws/Settle.lean ====
section
/-! SUPPORT. What a request's execution and a due step can do, and the laws of `settle`: every due step is taken, none is
left (log 1). -/

namespace Sys2Proof.Machine

/-- The parts of a state that an executed request which is no restart leaves alone, beside the head condition. -/
structure Wires where
  surfaceFramer  : Framer
  consoleFramer  : Framer
  pauseIn        : Bool
  consoleRx      : Line
  detector       : Detector
  powerReset     : Bool
  consoleTx      : Option ConsoleFrame
  burst          : Nat
  passQueue      : List Frame
  stack          : List (Fin 8)
  surfaceSending : Bool
  requests       : List Request
  replies        : List Reply
  resetCause     : Cause
  pending        : List Instr

/-- The wires of a state. -/
def State.wires (s : State) : Wires :=
  ⟨s.surfaceFramer, s.consoleFramer, s.pauseIn, s.consoleRx, s.detector, s.powerReset, s.consoleTx, s.burst,
    s.passQueue, s.stack, s.surfaceSending, s.requests, s.replies, s.resetCause, s.pending⟩

theorem State.wires_of_desk {s t : State} (h : t.desk = s.desk) : t.wires = s.wires := by
  simp only [State.wires, State.surfaceFramer_of_desk h, State.consoleFramer_of_desk h, State.pauseIn_of_desk h,
    State.consoleRx_of_desk h, State.detector_of_desk h, State.powerReset_of_desk h, State.consoleTx_of_desk h,
    State.burst_of_desk h, State.passQueue_of_desk h, State.stack_of_desk h, State.surfaceSending_of_desk h,
    State.requests_of_desk h, State.replies_of_desk h, State.resetCause_of_desk h, State.pending_of_desk h]

section Shared
variable {s t : State} (h : t.wires = s.wires)
include h
theorem State.consoleTx_of_wires : t.consoleTx = s.consoleTx := congrArg Wires.consoleTx h
theorem State.surfaceSending_of_wires : t.surfaceSending = s.surfaceSending := congrArg Wires.surfaceSending h
theorem State.requests_of_wires : t.requests = s.requests := congrArg Wires.requests h
theorem State.replies_of_wires : t.replies = s.replies := congrArg Wires.replies h
theorem State.pending_of_wires : t.pending = s.pending := congrArg Wires.pending h
theorem State.stack_of_wires : t.stack = s.stack := congrArg Wires.stack h
theorem State.passQueue_of_wires : t.passQueue = s.passQueue := congrArg Wires.passQueue h
theorem State.burst_of_wires : t.burst = s.burst := congrArg Wires.burst h
theorem State.holding_of_wires : t.holding = s.holding := by
  have h1 : t.detector = s.detector := congrArg Wires.detector h
  have h2 : t.powerReset = s.powerReset := congrArg Wires.powerReset h
  simp [State.holding, h1, h2]
end Shared

/-! ## Executing a request -/

/-- What executing a request can do: answer it, begin a flush, or, for a Restart that passes its checks, restart. -/
theorem carryOut_cases (r : Request) (s : State) :
    (∃ a t, carryOut r s = answer r a t ∧ t.wires = s.wires) ∨
      (∃ m e t, carryOut r s = { t with head := .flushing m e } ∧ t.desk = s.desk ∧ (s.module m).state = .active ∧
        (t = enterDraining m s)) ∨
      (∃ f, r.restartForm = some f ∧ carryOut r s = restart f s) := by
  have rf : ∀ x, ∃ a t, refuse r x s = answer r a t ∧ t.wires = s.wires := fun x => ⟨_, s, rfl, rfl⟩
  unfold carryOut
  split
  · left; unfold readStatus; split
    exacts [⟨_, s, rfl, rfl⟩, rf _]
  · left; unfold readSettings; split
    exacts [⟨_, s, rfl, rfl⟩, rf _]
  · left; unfold writeSettings; repeat' split
    exacts [⟨_, _, rfl, rfl⟩, rf _, rf _]
  · left; unfold readModule; repeat' split
    exacts [⟨_, s, rfl, rfl⟩, rf _, rf _]
  · unfold writeModule; split
    · split
      · split
        · exact .inl (rf _)
        · unfold carryWriteModule
          split
          · exact .inl ⟨_, s, rfl, rfl⟩
          · split
            · exact .inr (.inl ⟨_, _, _, rfl, enterDraining_desk _ _, ‹_›, rfl⟩)
            all_goals exact .inl ⟨_, _, rfl, State.wires_of_desk (installAtOnce_desk _ _ _)⟩
      · exact .inl (rf _)
    · exact .inl (rf _)
  · left; unfold readElement; repeat' split
    exacts [⟨_, s, rfl, rfl⟩, rf _, rf _]
  · left; unfold writeElement writeElementChecked; repeat' split
    all_goals first
      | exact rf _
      | exact ⟨_, _, rfl, State.wires_of_desk (writeElementEntry_desk ‹_›)⟩
  · left; unfold readLane; repeat' split
    exacts [⟨_, s, rfl, rfl⟩, rf _, rf _]
  · left; unfold writeLane; repeat' split
    · refine ⟨_, _, rfl, ?_⟩
      unfold writeLaneEntry; dsimp only; split
      · exact (State.wires_of_desk (servicePass_desk _)).trans rfl
      · rfl
    · exact rf _
    · exact rf _
  · left; unfold readProfile; repeat' split
    exacts [⟨_, s, rfl, rfl⟩, rf _, rf _]
  · left; unfold writeProfile; repeat' split
    exacts [⟨_, _, rfl, rfl⟩, rf _, rf _]
  · left; unfold readCounters; split
    · refine ⟨_, _, rfl, ?_⟩
      split
      · simp only [clearCounters, State.wires]
      · rfl
    · exact rf _
  · unfold restartRequest; split
    · exact .inr (.inr ⟨_, ‹_›, rfl⟩)
    · left; split <;> exact rf _
  · left; unfold controlCapture; repeat' split
    · exact ⟨_, _, rfl, State.wires_of_desk (captureControl_desk _ _ _ _)⟩
    · exact rf _
    · exact rf _
  · left; unfold captureRead; repeat' split
    · refine ⟨_, _, rfl, ?_⟩
      simp only [State.wires]
    · exact rf _
    · exact rf _
  · exact .inl (rf _)

/-! ## Restarts -/

section Restart
variable (s : State) (m : ModuleIx)

@[simp] theorem restartFrames_desk : (restartFrames s).desk = s.desk := by
  unfold restartFrames; rw [foldl_desk fun t m => requestResync_desk t m]; simp

theorem announce_wires (c : Cause) (s : State) :
    (announce c s).wires = { s.wires with resetCause := c } := by
  unfold announce
  rw [State.wires_of_desk (servicePass_desk _), State.wires_of_desk (notify_desk _ _)]
  simp only [State.wires]

theorem announce_head (c : Cause) (s : State) : (announce c s).head = s.head := by
  unfold announce
  rw [State.head_of_desk (servicePass_desk _), State.head_of_desk (notify_desk _ _)]

theorem completeWarm_wires (c : Cause) : (completeWarm c s).wires = { s.wires with resetCause := c } := by
  unfold completeWarm; rw [announce_wires, State.wires_of_desk (restartFrames_desk s)]

theorem completeWarm_head (c : Cause) : (completeWarm c s).head = s.head := by
  unfold completeWarm; rw [announce_head, State.head_of_desk (restartFrames_desk s)]

theorem beginWarm_wires : (beginWarm s).wires = (beginCold s).wires := by simp only [beginWarm, State.wires]

theorem beginWarm_head : (beginWarm s).head = .ready := by simp only [beginWarm, beginCold, State.blank]

/-- What a restart request leaves of the wires: everything reset but the input lines, the reset input and the queue of
commands, with the cause of its form. -/
theorem restart_wires (f : RestartForm) :
    (restart f s).wires = { (beginCold s).wires with
      resetCause := match f with | .cold => .coldRequest | .warm => .warmRequest } := by
  cases f
  · simp only [restart, restartCold, completeCold]; rw [announce_wires]
  · simp only [restart, restartWarm]; rw [completeWarm_wires, beginWarm_wires]

theorem restart_head (f : RestartForm) : (restart f s).head = .ready := by
  cases f
  · simp only [restart, restartCold, completeCold]; rw [announce_head]; rfl
  · simp only [restart, restartWarm]; rw [completeWarm_head, beginWarm_head]

end Restart

/-! ## Takes -/

theorem takeNotice_frame (l : Fin 8) (s : State) :
    (takeNotice l s).requests = s.requests ∧ (takeNotice l s).head = s.head ∧
      (takeNotice l s).surfaceSending = s.surfaceSending ∧ (takeNotice l s).replies = s.replies ∧
      (takeNotice l s).pending = s.pending ∧ (takeNotice l s).holding = s.holding := by
  unfold takeNotice
  split
  · simp
  · dsimp only
    have h : ∀ u : State, (u.requests = s.requests ∧ u.head = s.head ∧ u.surfaceSending = s.surfaceSending ∧
        u.replies = s.replies ∧ u.pending = s.pending ∧ u.holding = s.holding) →
        ∀ c : Prop, [Decidable c] → ((if c then servicePass u else u).requests = s.requests ∧
          (if c then servicePass u else u).head = s.head ∧
          (if c then servicePass u else u).surfaceSending = s.surfaceSending ∧
          (if c then servicePass u else u).replies = s.replies ∧
          (if c then servicePass u else u).pending = s.pending ∧
          (if c then servicePass u else u).holding = s.holding) := by
      intro u hu c _
      have hd := servicePass_desk u
      split
      · rwa [State.requests_of_desk hd, State.head_of_desk hd, State.surfaceSending_of_desk hd,
          State.replies_of_desk hd, State.pending_of_desk hd, State.holding_of_desk hd]
      · exact hu
    apply h
    split
    · unfold enterService; dsimp only; split <;> simp [State.holding]
    · simp [State.holding]

theorem takeChoice_frame (c : Choice) (s : State) :
    (takeChoice c s).requests = s.requests ∧ (takeChoice c s).head = s.head ∧
      (takeChoice c s).surfaceSending = s.surfaceSending ∧ (takeChoice c s).pending = s.pending ∧
      (takeChoice c s).holding = s.holding := by
  cases c with
  | reply => simp only [takeChoice, takeReply]; split <;> simp [State.holding]
  | notice l =>
    obtain ⟨h1, h2, h3, _, h5, h6⟩ := takeNotice_frame l s
    exact ⟨h1, h2, h3, h5, h6⟩
  | pass => simp only [takeChoice, takePass]; split <;> simp [State.holding]

/-- An eligible lane holds an untaken notice (R117). -/
theorem State.fifo_ne_nil_of_eligible {s : State} {l : Fin 8} (h : s.eligible l = true) : (s.lane l).fifo ≠ [] := by
  simp only [State.eligible, Bool.and_eq_true, decide_eq_true_eq] at h
  exact h.1.1.1

theorem State.foldl_better_mem (s : State) (ls : List (Fin 8)) (b : Option (Fin 8)) {l : Fin 8}
    (h : ls.foldl s.better b = some l) : l ∈ ls ∨ b = some l := by
  induction ls generalizing b with
  | nil => exact .inr h
  | cons k ks ih =>
    rcases ih _ h with h | h
    · exact .inl (List.mem_cons_of_mem _ h)
    · unfold State.better at h
      split at h
      · cases h; exact .inl (by simp)
      · split at h
        · cases h; exact .inl (by simp)
        · exact .inr h

/-- The lane offered is eligible (R118). -/
theorem State.eligible_of_offer {s : State} {l : Fin 8} (h : s.offer = some l) : s.eligible l = true := by
  rcases State.foldl_better_mem s _ _ h with h | h
  · exact (List.mem_filter.mp h).2
  · cases h

/-- The lane offered is none where no lane is eligible (R118). -/
theorem State.offer_eq_none_iff (s : State) : s.offer = none ↔ ∀ l, s.eligible l = false := by
  have some_better : ∀ (ls : List (Fin 8)) (b : Fin 8), ls.foldl s.better (some b) ≠ none := by
    intro ls
    induction ls with
    | nil => simp
    | cons l ls ih => intro b; simp only [List.foldl_cons, State.better]; split <;> exact ih _
  unfold State.offer
  cases h : allLanes.filter s.eligible with
  | nil => simpa [allLanes] using h
  | cons l ls =>
    have hl : s.eligible l = true := (List.mem_filter.mp (h ▸ List.mem_cons_self : l ∈ allLanes.filter s.eligible)).2
    refine ⟨fun he => absurd he (some_better ls l), fun he => ?_⟩
    rw [he l] at hl
    cases hl

theorem takeNotice_consoleTx {l : Fin 8} {s : State} (h : (s.lane l).fifo ≠ []) :
    ∃ n, (takeNotice l s).consoleTx = some (.notice n) ∧ (s.lane l).fifo.head? = some n := by
  unfold takeNotice
  split
  · contradiction
  · rename_i n rest hf
    refine ⟨n, ?_, by simp [hf]⟩
    dsimp only
    have : ∀ u : State, u.consoleTx = some (.notice n) → ∀ c : Prop, [Decidable c] →
        (if c then servicePass u else u).consoleTx = some (.notice n) := by
      intro u hu c _
      split
      · rwa [State.consoleTx_of_desk (servicePass_desk u)]
      · exact hu
    apply this
    split
    · unfold enterService; dsimp only; split <;> rfl
    · rfl

/-- A selection that finds a frame takes it: the console serializer is then busy (R119, R122). -/
theorem selectStep_consoleTx {s t : State} (h : selectStep s = some t) : s.consoleTx = none ∧ t.consoleTx ≠ none := by
  unfold selectStep at h
  split at h
  · rename_i hc
    refine ⟨hc.1, ?_⟩
    simp only [Option.map_eq_some_iff] at h
    obtain ⟨c, hch, rfl⟩ := h
    unfold State.choice at hch
    cases c with
    | reply =>
      have : s.replies ≠ [] := by
        intro h0
        simp only [h0, ne_eq, not_true_eq_false, if_false] at hch
        repeat' split at hch
        all_goals cases hch
      simp only [takeChoice, takeReply]
      split
      · contradiction
      · simp
    | notice l =>
      have : s.offer = some l := by
        repeat' split at hch
        all_goals first | (cases hch; assumption) | cases hch
      obtain ⟨n, hn, _⟩ := takeNotice_consoleTx (State.fifo_ne_nil_of_eligible (State.eligible_of_offer this))
      simp [takeChoice, hn]
    | pass =>
      have : s.passReady = true := by
        repeat' split at hch
        all_goals first | (cases hch; simp_all) | cases hch
      simp only [takeChoice, takePass]
      split
      · rename_i hp; simp [State.passReady, hp] at this
      · simp
  · cases h

/-! ## Due steps -/

/-- How many due steps can follow at most. -/
def State.dueSteps (s : State) : Nat :=
  (match s.head with
    | .ready => 3 * s.requests.length
    | .flushing _ _ => 3 * s.requests.length - 1
    | .awaitingSlot _ => if s.requests = [] then 1 else 3 * s.requests.length - 2) +
  (if s.consoleTx = none then 1 else 0) + (if s.surfaceSending then 0 else 1)

theorem State.dueSteps_le (s : State) : s.dueSteps ≤ dueBound s := by
  unfold State.dueSteps dueBound
  cases s.head <;> simp only <;> split <;> split <;> try split
  all_goals omega

theorem flushStep_cases {s t : State} (h : flushStep s = some t) :
    ∃ m e r rest, s.head = .flushing m e ∧ s.requests = r :: rest ∧ s.flushDone m = true ∧
      t = done r (completeFlush m e s) := by
  unfold flushStep at h
  split at h
  · split at h
    · cases h; exact ⟨_, _, _, _, ‹_›, ‹_›, ‹_›, rfl⟩
    · cases h
  · cases h

theorem slotStep_cases {s t : State} (h : slotStep s = some t) :
    ∃ r, s.head = .awaitingSlot r ∧ s.replies.length < Config.replyEntries ∧
      t = { s with replies := s.replies ++ [r], requests := s.requests.tail, head := .ready } := by
  unfold slotStep at h
  split at h
  · split at h
    · cases h; exact ⟨_, ‹_›, ‹_›, rfl⟩
    · cases h
  all_goals cases h

theorem executeStep_cases {s t : State} (h : executeStep s = some t) :
    ∃ r rest, s.head = .ready ∧ s.requests = r :: rest ∧ t = carryOut r s := by
  unfold executeStep at h
  split at h
  · cases h; exact ⟨_, _, ‹_›, ‹_›, rfl⟩
  · cases h

theorem surfaceStep_cases {s t : State} (h : surfaceStep s = some t) :
    s.surfaceSending = false ∧ s.outbound ≠ [] ∧ t = { s with surfaceSending := true } := by
  unfold surfaceStep at h
  split at h
  · cases h; exact ⟨‹_ ∧ _›.1, ‹_ ∧ _›.2, rfl⟩
  · cases h

/-- A due step is one of the five, and nothing holds the block. -/
theorem dueStep_cases {s t : State} (h : dueStep s = some t) :
    s.holding = false ∧ (flushStep s = some t ∨ slotStep s = some t ∨ executeStep s = some t ∨ selectStep s = some t ∨
      surfaceStep s = some t) := by
  unfold dueStep at h
  split at h
  · cases h
  · rename_i hc
    refine ⟨by simpa using hc, ?_⟩
    simp only [Option.orElse_eq_orElse, Option.orElse_eq_or, Option.or_eq_some_iff] at h
    tauto

theorem dueSteps_lt {s t : State} (h : dueStep s = some t) : t.dueSteps < s.dueSteps := by
  obtain ⟨-, h | h | h | h | h⟩ := dueStep_cases h
  · obtain ⟨m, e, r, rest, hh, hr, -, rfl⟩ := flushStep_cases h
    have hd := completeFlush_desk s m e
    simp only [State.dueSteps, done, answer, State.requests_of_desk hd, State.consoleTx_of_desk hd,
      State.surfaceSending_of_desk hd, hh, hr, List.length_cons, reduceCtorEq, if_false]
    omega
  · obtain ⟨r, hh, -, rfl⟩ := slotStep_cases h
    simp only [State.dueSteps, hh, List.length_tail]
    cases hr : s.requests <;> simp
    omega
  · obtain ⟨r, rest, hh, hr, rfl⟩ := executeStep_cases h
    obtain ⟨a, u, hu, hw⟩ | ⟨m, e, u, hu, hd, -⟩ | ⟨f, -, hu⟩ := carryOut_cases r s
    · rw [hu]
      simp only [State.dueSteps, answer, State.requests_of_wires hw, State.consoleTx_of_wires hw,
        State.surfaceSending_of_wires hw, hh, hr, List.length_cons, reduceCtorEq, if_false]
      omega
    · rw [hu]
      simp only [State.dueSteps, State.requests_of_desk hd, State.consoleTx_of_desk hd,
        State.surfaceSending_of_desk hd, hh, hr, List.length_cons]
      omega
    · have hw := restart_wires s f
      have h1 : (restart f s).requests = [] := congrArg Wires.requests hw
      rw [hu]
      simp only [State.dueSteps, restart_head, h1, hh, hr, List.length_cons, List.length_nil]
      split <;> split <;> omega
  · have htx := selectStep_consoleTx h
    unfold selectStep at h
    split at h
    · simp only [Option.map_eq_some_iff] at h
      obtain ⟨c, -, rfl⟩ := h
      obtain ⟨h1, h2, h3, -⟩ := takeChoice_frame c s
      simp only [State.dueSteps, h1, h2, h3, htx.1, htx.2, if_true, if_false]
      omega
    · cases h
  · obtain ⟨h1, -, rfl⟩ := surfaceStep_cases h
    simp [State.dueSteps, h1]

/-- When nothing is due, in the fields of the state. -/
theorem dueStep_eq_none_iff (s : State) : dueStep s = none ↔ (s.holding = false →
    (s.head = .ready → s.requests = []) ∧ (∀ r, s.head = .awaitingSlot r → 4 ≤ s.replies.length) ∧
    (∀ m x, s.head = .flushing m x → s.requests ≠ [] → ∃ i ∈ s.boundTo m, ∃ p c, (s.element i).control = .key p c ∧
      (p.mode = .both ∧ c.stale = true ∨ c.echoPending = true)) ∧
    (s.consoleTx = none → s.pauseIn = false →
      s.replies = [] ∧ (∀ l, s.eligible l = false) ∧ (s.passQueue = [] ∨ s.bulkHold = true)) ∧
    (s.surfaceSending = true ∨ s.outbound = [])) := by
  have flush : flushStep s = none ↔ ∀ m x, s.head = .flushing m x → s.requests ≠ [] →
      ∃ i ∈ s.boundTo m, ∃ p c, (s.element i).control = .key p c ∧
        (p.mode = .both ∧ c.stale = true ∨ c.echoPending = true) := by
    have owes : ∀ i, s.flushOwes i = true ↔ ∃ p c, (s.element i).control = .key p c ∧
        (p.mode = .both ∧ c.stale = true ∨ c.echoPending = true) := by
      intro i
      unfold State.flushOwes
      cases (s.element i).control <;> simp
    simp only [← owes]
    unfold flushStep
    cases s.head <;> cases s.requests <;> simp [State.flushDone]
  have slot : slotStep s = none ↔ ∀ r, s.head = .awaitingSlot r → 4 ≤ s.replies.length := by
    unfold slotStep
    cases s.head <;> simp [Config.replyEntries]
  have execute : executeStep s = none ↔ (s.head = .ready → s.requests = []) := by
    unfold executeStep
    cases s.head <;> cases s.requests <;> simp
  have select : selectStep s = none ↔ (s.consoleTx = none → s.pauseIn = false →
      s.replies = [] ∧ (∀ l, s.eligible l = false) ∧ (s.passQueue = [] ∨ s.bulkHold = true)) := by
    rw [← State.offer_eq_none_iff]
    unfold selectStep State.choice State.passReady
    cases s.consoleTx <;> cases s.pauseIn <;> cases s.replies <;> cases s.offer <;> cases s.passQueue <;>
      cases s.bulkHold <;> simp
    split <;> simp
  have surface : surfaceStep s = none ↔ (s.surfaceSending = true ∨ s.outbound = []) := by
    unfold surfaceStep
    cases s.surfaceSending <;> cases s.outbound <;> simp
  rw [← flush, ← slot, ← execute, ← select, ← surface]
  unfold dueStep
  cases s.holding <;> simp
  tauto

/-! ## Settling -/

theorem settleWith_quiescent {n : Nat} {s : State} (h : s.Quiescent) : settleWith n s = s := by
  cases n with
  | zero => rfl
  | succ n => simp only [settleWith]; rw [show dueStep s = none from h]

theorem settleWith_eq {n k : Nat} {s : State} (hn : s.dueSteps ≤ n) (hk : s.dueSteps ≤ k) :
    settleWith n s = settleWith k s := by
  induction n generalizing k s with
  | zero =>
    cases h : dueStep s with
    | none => rw [settleWith_quiescent h, settleWith_quiescent h]
    | some t => have := dueSteps_lt h; omega
  | succ n ih =>
    cases h : dueStep s with
    | none => rw [settleWith_quiescent h, settleWith_quiescent h]
    | some t =>
      have := dueSteps_lt h
      cases k with
      | zero => omega
      | succ k => simp only [settleWith, h]; exact ih (by omega) (by omega)

/-- Settling with nothing due changes nothing. -/
theorem settle_of_quiescent {s : State} (h : s.Quiescent) : settle s = s := settleWith_quiescent h

/-- Settling takes a due step and goes on from there. -/
theorem settle_of_due {s t : State} (h : dueStep s = some t) : settle s = settle t := by
  have h1 := dueSteps_lt h
  have h2 := State.dueSteps_le s
  have h3 := State.dueSteps_le t
  unfold settle
  obtain ⟨n, hn⟩ : ∃ n, dueBound s = n + 1 := ⟨dueBound s - 1, by omega⟩
  rw [hn]
  simp only [settleWith, h]
  exact settleWith_eq (by omega) h3

/-- What every due step keeps, settling keeps. -/
theorem settle_induct {P : State → Prop} (hP : ∀ s t, dueStep s = some t → P s → P t) {s : State} (h : P s) :
    P (settle s) := by
  unfold settle
  generalize dueBound s = n
  induction n generalizing s with
  | zero => exact h
  | succ n ih =>
    unfold settleWith
    split
    · exact ih (hP _ _ ‹_› h)
    · exact h

theorem settleWith_leaves {n : Nat} {s : State} (hn : s.dueSteps ≤ n) : (settleWith n s).Quiescent := by
  induction n generalizing s with
  | zero =>
    cases h : dueStep s with
    | none => exact h
    | some t => have := dueSteps_lt h; omega
  | succ n ih =>
    unfold settleWith
    split
    · rename_i t h
      have := dueSteps_lt h
      exact ih (by omega)
    · assumption

/-- After settling nothing is due. -/
theorem settle_quiescent (s : State) : (settle s).Quiescent := settleWith_leaves (State.dueSteps_le s)

theorem settle_holding {s : State} (h : s.holding = true) : settle s = s :=
  settle_of_quiescent (by simp [State.Quiescent, dueStep, h])

/-- An internal command whose step is the first one due, wherever it is due at all, is settling. -/
theorem internal_eq_settle {f : State → Option State} {s : State} (h : s.holding = false)
    (hf : ∀ t, f s = some t → dueStep s = some t) : internal f s = settle s := by
  simp only [internal, h, Bool.false_eq_true, if_false]
  cases hs : f s with
  | none => rfl
  | some t => exact (settle_of_due (hf t hs)).symm

/-- A due step keeps the commands that wait. -/
theorem dueStep_pending {s t : State} (h : dueStep s = some t) : t.pending = s.pending := by
  obtain ⟨-, h | h | h | h | h⟩ := dueStep_cases h
  · obtain ⟨m, e, r, rest, -, -, -, rfl⟩ := flushStep_cases h
    simp only [done, answer]
    exact State.pending_of_desk (completeFlush_desk s m e)
  · obtain ⟨r, -, -, rfl⟩ := slotStep_cases h; rfl
  · obtain ⟨r, rest, -, -, rfl⟩ := executeStep_cases h
    obtain ⟨a, u, hu, hw⟩ | ⟨m, e, u, hu, hd, -⟩ | ⟨f, -, hu⟩ := carryOut_cases r s
    · rw [hu]; exact State.pending_of_wires hw
    · rw [hu]; simp only [State.pending_of_desk hd]
    · rw [hu]; exact congrArg Wires.pending (restart_wires s f)
  · unfold selectStep at h
    split at h
    · simp only [Option.map_eq_some_iff] at h
      obtain ⟨c, -, rfl⟩ := h
      exact (takeChoice_frame c s).2.2.2.1
    · cases h
  · obtain ⟨-, -, rfl⟩ := surfaceStep_cases h; rfl

theorem settle_pending (s : State) : (settle s).pending = s.pending :=
  settle_induct (P := fun t => t.pending = s.pending) (fun _ _ h hp => (dueStep_pending h).trans hp) rfl

end Sys2Proof.Machine
end

