-- ==== Sys2Proof/Laws/Queue.lean ====
section
/-! SUPPORT. The execution of a request that is no restart neither reads nor writes the request queue and the reply queue
(R146, R147): each operation it makes takes a change of the queues before it or after it alike. -/

namespace Sys2Proof.Machine

/-- `s` with the request queue and the reply queue `q`. -/
def State.withQueues (s : State) (q : List Request × List Reply) : State := { s with requests := q.1, replies := q.2 }

section Queue
variable (s : State) (q : List Request × List Reply) (i : Nat) (m : ModuleIx)

/-! ## What does not read the queues -/

@[simp] theorem lane_withQueues (l : Fin 8) : (s.withQueues q).lane l = s.lane l := rfl
@[simp] theorem module_withQueues : (s.withQueues q).module m = s.module m := rfl
@[simp] theorem element_withQueues : (s.withQueues q).element i = s.element i := rfl
@[simp] theorem bound_withQueues : (s.withQueues q).bound i = s.bound i := rfl
@[simp] theorem boundTo_withQueues : (s.withQueues q).boundTo m = s.boundTo m := rfl
@[simp] theorem room_withQueues (l : Fin 8) : (s.withQueues q).room l = s.room l := rfl
@[simp] theorem freeSlots_withQueues : (s.withQueues q).freeSlots = s.freeSlots := rfl
@[simp] theorem outboundRoom_withQueues : (s.withQueues q).outboundRoom = s.outboundRoom := rfl
@[simp] theorem keyMode_withQueues : (s.withQueues q).keyMode i = s.keyMode i := rfl
@[simp] theorem elementNotice_withQueues (k : NoticeKind) (v : Int) (z : Option Zone) (f : Flags) :
    (s.withQueues q).elementNotice i k v z f = s.elementNotice i k v z f := rfl
@[simp] theorem serviceBlocked_withQueues : (s.withQueues q).serviceBlocked i = s.serviceBlocked i := rfl
@[simp] theorem serviceFlags_withQueues : (s.withQueues q).serviceFlags i = s.serviceFlags i := rfl
@[simp] theorem owedOn_withQueues (l : Fin 8) : (s.withQueues q).owedOn l = s.owedOn l := rfl
@[simp] theorem systemLost_withQueues : (s.withQueues q).systemLost = s.systemLost := rfl
@[simp] theorem overlaps_withQueues (e : ModuleEntry) : (s.withQueues q).overlaps m e = s.overlaps m e := rfl
@[simp] theorem settings_withQueues : (s.withQueues q).settings = s.settings := rfl
@[simp] theorem profiles_withQueues : (s.withQueues q).profiles = s.profiles := rfl
@[simp] theorem capture_withQueues : (s.withQueues q).capture = s.capture := rfl
@[simp] theorem statusBytes_withQueues (r : Request) : statusBytes r (s.withQueues q) = statusBytes r s := rfl
@[simp] theorem counterBytes_withQueues : counterBytes (s.withQueues q) = counterBytes s := rfl

/-! ## Updates -/

@[simp] theorem setLane_withQueues (l : Fin 8) (x : Lane) :
    (s.withQueues q).setLane l x = (s.setLane l x).withQueues q := rfl
@[simp] theorem setModule_withQueues (x : Module) :
    (s.withQueues q).setModule m x = (s.setModule m x).withQueues q := rfl
@[simp] theorem updModule_withQueues (f : Module → Module) :
    (s.withQueues q).updModule m f = (s.updModule m f).withQueues q := rfl
@[simp] theorem setElement_withQueues (e : Element) :
    (s.withQueues q).setElement i e = (s.setElement i e).withQueues q := rfl
@[simp] theorem setControl_withQueues (c : Control) :
    (s.withQueues q).setControl i c = (s.setControl i c).withQueues q := rfl
@[simp] theorem pushOut_withQueues (f : Frame) (b : Bool) :
    (s.withQueues q).pushOut f b = (s.pushOut f b).withQueues q := rfl
@[simp] theorem pushNotice_withQueues (n : Notice) :
    (s.withQueues q).pushNotice n = (s.pushNotice n).withQueues q := rfl
@[simp] theorem countOverflow_withQueues (l : Fin 8) :
    (s.withQueues q).countOverflow l = (s.countOverflow l).withQueues q := rfl
@[simp] theorem countDiscarded_withQueues : (s.withQueues q).countDiscarded = s.countDiscarded.withQueues q := rfl
@[simp] theorem countSystemLost_withQueues :
    (s.withQueues q).countSystemLost = s.countSystemLost.withQueues q := rfl
@[simp] theorem pushIndicator_withQueues (n : Fin 64) (on : Bool) :
    pushIndicator m n on i (s.withQueues q) = (pushIndicator m n on i s).withQueues q := rfl
@[simp] theorem dropSweep_withQueues : dropSweep m (s.withQueues q) = (dropSweep m s).withQueues q := rfl
@[simp] theorem clearCounters_withQueues : clearCounters (s.withQueues q) = (clearCounters s).withQueues q := rfl
@[simp] theorem captureControl_withQueues (e : Bool) (f : Option ModuleIx) (c : Bool) :
    captureControl e f c (s.withQueues q) = (captureControl e f c s).withQueues q := by
  unfold captureControl captureRestart
  simp only [capture_withQueues]
  cases c <;> simp only [Bool.true_or, Bool.false_or, if_true]
  · by_cases h : (e != s.capture.enabled || f != s.capture.filter) = true <;> simp only [h] <;> rfl
  · rfl

@[simp] theorem updKey_withQueues (f : KeyCtx → KeyCtx) :
    (s.withQueues q).updKey i f = (s.updKey i f).withQueues q := by
  unfold State.updKey; rw [element_withQueues]; split <;> rfl
@[simp] theorem updEncoder_withQueues (f : EncoderCtx → EncoderCtx) :
    (s.withQueues q).updEncoder i f = (s.updEncoder i f).withQueues q := by
  unfold State.updEncoder; rw [element_withQueues]; split <;> rfl
@[simp] theorem updLevel_withQueues (f : LevelCtx → LevelCtx) :
    (s.withQueues q).updLevel i f = (s.updLevel i f).withQueues q := by
  unfold State.updLevel; rw [element_withQueues]; split <;> rfl

/-- What each step of a fold does alike with other queues, the fold does. -/
theorem foldl_withQueues {α : Type} {f : State → α → State}
    (h : ∀ s a, f (s.withQueues q) a = (f s a).withQueues q) (l : List α) (s : State) :
    l.foldl f (s.withQueues q) = (l.foldl f s).withQueues q := by
  induction l generalizing s with
  | nil => rfl
  | cons a l ih => rw [List.foldl_cons, List.foldl_cons, h, ih]

/-! ## Notices -/

@[simp] theorem setStale_withQueues : (s.withQueues q).setStale i = (s.setStale i).withQueues q := by
  unfold State.setStale; rw [element_withQueues]; split <;> rfl
@[simp] theorem noticeLost_withQueues (n : Notice) :
    noticeLost n (s.withQueues q) = (noticeLost n s).withQueues q := by
  unfold noticeLost
  cases n.kind <;> simp only <;> cases n.index <;> simp
  all_goals split <;> rfl
@[simp] theorem notify_withQueues (n : Notice) : notify n (s.withQueues q) = (notify n s).withQueues q := by
  unfold notify; rw [room_withQueues]; split <;> simp
@[simp] theorem giveNotice_withQueues (k : NoticeKind) (v : Int) (z : Option Zone) (f : Flags) :
    giveNotice i k v z f (s.withQueues q) = (giveNotice i k v z f s).withQueues q := by
  unfold giveNotice; rw [elementNotice_withQueues]; split <;> simp
@[simp] theorem pushOwed_withQueues (k : NoticeKind) (v : Int) (z : Option Zone) (f : Flags) :
    pushOwed i k v z f (s.withQueues q) = (pushOwed i k v z f s).withQueues q := by
  unfold pushOwed; rw [elementNotice_withQueues]; split <;> simp
@[simp] theorem serveElement_withQueues : serveElement i (s.withQueues q) = (serveElement i s).withQueues q := by
  unfold serveElement
  rw [element_withQueues]
  split
  · rename_i p c _
    cases p.mode <;> simp
  · simp
  · rename_i p c _
    by_cases hc : c.carry = 0 <;> simp [hc]
  all_goals rfl
@[simp] theorem serveLane_withQueues (l : Fin 8) (is : List Nat) :
    serveLane l is (s.withQueues q) = (serveLane l is s).withQueues q := by
  induction is generalizing s with
  | nil => rfl
  | cons i is ih =>
    unfold serveLane
    rw [freeSlots_withQueues, keyMode_withQueues, serviceBlocked_withQueues, room_withQueues,
      serveElement_withQueues, ih, ih]
    repeat' split
    all_goals rfl
@[simp] theorem serveOverflow_withQueues : serveOverflow (s.withQueues q) = (serveOverflow s).withQueues q := by
  unfold serveOverflow; rw [systemLost_withQueues, room_withQueues]; split <;> rfl
@[simp] theorem servicePass_withQueues : servicePass (s.withQueues q) = (servicePass s).withQueues q := by
  unfold servicePass
  rw [serveOverflow_withQueues, foldl_withQueues]
  intro s l
  rw [owedOn_withQueues, serveLane_withQueues]

/-! ## The merger and the keys -/

@[simp] theorem requestResync_withQueues : requestResync m (s.withQueues q) = (requestResync m s).withQueues q := by
  unfold requestResync; rw [outboundRoom_withQueues]; split <;> rfl
@[simp] theorem requestEcho_withQueues : requestEcho i (s.withQueues q) = (requestEcho i s).withQueues q := by
  unfold requestEcho
  rw [element_withQueues, bound_withQueues, outboundRoom_withQueues]
  repeat' split
  all_goals simp
@[simp] theorem requestOff_withQueues (n : Fin 64) :
    requestOff m n i (s.withQueues q) = (requestOff m n i s).withQueues q := by
  unfold requestOff; rw [outboundRoom_withQueues]; split <;> rfl
@[simp] theorem echoAct_withQueues : echoAct i (s.withQueues q) = (echoAct i s).withQueues q := by
  unfold echoAct
  simp only [element_withQueues, updKey_withQueues, requestEcho_withQueues]
  repeat' split
  all_goals rfl
@[simp] theorem releaseKey_withQueues (f : Flags) :
    releaseKey i f (s.withQueues q) = (releaseKey i f s).withQueues q := by
  unfold releaseKey
  simp only [element_withQueues, updKey_withQueues, giveNotice_withQueues]
  repeat' split
  all_goals rfl
@[simp] theorem drainStale_withQueues : drainStale i (s.withQueues q) = (drainStale i s).withQueues q := by
  unfold drainStale
  simp only [element_withQueues, updKey_withQueues]
  repeat' split
  all_goals rfl
@[simp] theorem drainEcho_withQueues : drainEcho i (s.withQueues q) = (drainEcho i s).withQueues q := by
  unfold drainEcho
  simp only [element_withQueues, updKey_withQueues, requestEcho_withQueues]
  repeat' split
  all_goals rfl
@[simp] theorem drainElement_withQueues : drainElement i (s.withQueues q) = (drainElement i s).withQueues q := by
  unfold drainElement
  simp only [element_withQueues, updEncoder_withQueues, updLevel_withQueues, drainKey, releaseKey_withQueues,
    drainStale_withQueues, drainEcho_withQueues]
  split <;> rfl

/-! ## Module entries -/

@[simp] theorem resetContext_withQueues : resetContext i (s.withQueues q) = (resetContext i s).withQueues q := rfl
@[simp] theorem offAtReset_withQueues : offAtReset m i (s.withQueues q) = (offAtReset m i s).withQueues q := by
  unfold offAtReset
  simp only [element_withQueues, requestOff_withQueues]
  repeat' split
  all_goals rfl
@[simp] theorem resetRange_withQueues (e : ModuleEntry) :
    resetRange e (s.withQueues q) = (resetRange e s).withQueues q := by
  unfold resetRange
  rw [foldl_withQueues q fun s i => resetContext_withQueues s q i]
  split <;> rfl
@[simp] theorem resetBoundRange_withQueues (e : ModuleEntry) :
    resetBoundRange m e (s.withQueues q) = (resetBoundRange m e s).withQueues q := by
  unfold resetBoundRange
  rw [foldl_withQueues q fun s i => by rw [offAtReset_withQueues, resetContext_withQueues]]
  split <;> rfl
@[simp] theorem enterMapped_withQueues (e : ModuleEntry) :
    enterMapped m e (s.withQueues q) = (enterMapped m e s).withQueues q := by
  unfold enterMapped
  simp only [updModule_withQueues, requestResync_withQueues]
  split <;> rfl
@[simp] theorem installAtOnce_withQueues (e : ModuleEntry) :
    installAtOnce m e (s.withQueues q) = (installAtOnce m e s).withQueues q := by simp [installAtOnce]
@[simp] theorem enterDraining_withQueues : enterDraining m (s.withQueues q) = (enterDraining m s).withQueues q := by
  unfold enterDraining
  simp only [dropSweep_withQueues, updModule_withQueues, boundTo_withQueues]
  rw [foldl_withQueues q fun s i => drainElement_withQueues s q i, servicePass_withQueues]

/-! ## Element entries -/

@[simp] theorem writeAtRest_withQueues (l : Fin 8) (c : Control) :
    writeAtRest i l c (s.withQueues q) = (writeAtRest i l c s).withQueues q := by
  unfold writeAtRest
  simp only [bound_withQueues, offAtReset_withQueues]
  split <;> rfl
@[simp] theorem dropEcho_withQueues (o : KeyParams) (c : KeyCtx) :
    dropEcho i o c (s.withQueues q) = (dropEcho i o c s).withQueues q := by
  unfold dropEcho
  simp only [bound_withQueues, requestOff_withQueues]
  repeat' split
  all_goals simp
@[simp] theorem retuneEcho_withQueues (o n : KeyParams) (c : KeyCtx) :
    retuneEcho i o n c (s.withQueues q) = (retuneEcho i o n c s).withQueues q := by
  unfold retuneEcho; repeat' split
  all_goals simp
@[simp] theorem writeKeyInPlace_withQueues (o n : KeyParams) (c : KeyCtx) :
    writeKeyInPlace i o n c (s.withQueues q) = (writeKeyInPlace i o n c s).withQueues q := by
  unfold writeKeyInPlace
  simp only [setControl_withQueues, retuneEcho_withQueues, servicePass_withQueues]
  split <;> rfl
@[simp] theorem writeInPlace_withQueues (c : Control) :
    writeInPlace i c (s.withQueues q) = (writeInPlace i c s).map (·.withQueues q) := by
  unfold writeInPlace
  simp only [element_withQueues, writeKeyInPlace_withQueues, setControl_withQueues]
  cases (s.element i).control <;> cases c <;> rfl
@[simp] theorem writeElementEntry_withQueues (l : Fin 8) (c : Control) :
    writeElementEntry i l c (s.withQueues q) = (writeElementEntry i l c s).map (·.withQueues q) := by
  unfold writeElementEntry
  simp only [bound_withQueues, module_withQueues, element_withQueues, writeInPlace_withQueues,
    writeAtRest_withQueues]
  repeat' split
  all_goals rfl
@[simp] theorem writeLaneEntry_withQueues (l : Fin 8) (e : LaneEntry) :
    writeLaneEntry l e (s.withQueues q) = (writeLaneEntry l e s).withQueues q := by
  unfold writeLaneEntry
  simp only [lane_withQueues, setLane_withQueues, servicePass_withQueues]
  split <;> rfl

end Queue

/-- A request that is no restart is executed alike whatever stands in the queues (R146, R147). -/
theorem carryOut_withQueues {r : Request} (h : r.restartForm = none) (s : State) (q : List Request × List Reply) :
    carryOut r (s.withQueues q) = (carryOut r s).withQueues q := by
  unfold carryOut
  split
  · unfold readStatus; split <;> rfl
  · unfold readSettings; split <;> rfl
  · unfold writeSettings; repeat' split
    all_goals rfl
  · unfold readModule; repeat' split
    all_goals rfl
  · unfold writeModule
    simp only [overlaps_withQueues, carryWriteModule, module_withQueues, installAtOnce_withQueues,
      enterDraining_withQueues]
    repeat' split
    all_goals rfl
  · unfold readElement; repeat' split
    all_goals rfl
  · unfold writeElement writeElementChecked
    simp only [writeElementEntry_withQueues]
    split
    · split
      · rfl
      · split
        · rfl
        · split
          · split
            · rename_i i l c _ _ _
              cases writeElementEntry _ l c s <;> rfl
            · rfl
          · rfl
    all_goals (repeat' split) <;> rfl
  · unfold readLane; repeat' split
    all_goals rfl
  · unfold writeLane
    simp only [writeLaneEntry_withQueues]
    repeat' split
    all_goals rfl
  · unfold readProfile; repeat' split
    all_goals rfl
  · unfold writeProfile; repeat' split
    all_goals rfl
  · unfold readCounters; repeat' split
    all_goals rfl
  · unfold restartRequest; simp only [h]; split <;> rfl
  · unfold controlCapture
    simp only [captureControl_withQueues, capture_withQueues]
    repeat' split
    all_goals rfl
  · unfold captureRead; repeat' split
    all_goals rfl
  · rfl

end Sys2Proof.Machine
end

