-- ==== Sys2Proof/Laws/Requests.lean ====
section
/-! SUPPORT. What a Request frame comes to: its arrival, its execution at the head of the queue, its reply. -/

namespace Sys2Proof.Machine

/-- What the end of a partial frame leaves: all but the framer of the port and the counters. -/
theorem endPartial_cases (p : Port) (s : State) :
    endPartial p s = s ∨ endPartial p s = (s.countFrameError p).setFramer p .hunting := by
  unfold endPartial
  split
  · exact .inl rfl
  · exact .inr rfl

theorem endPartial_holding (p : Port) (s : State) : (endPartial p s).holding = s.holding := by
  rcases endPartial_cases p s with h | h <;> rw [h]
  cases p <;> rfl

theorem endPartial_requests (p : Port) (s : State) : (endPartial p s).requests = s.requests := by
  rcases endPartial_cases p s with h | h <;> rw [h]
  cases p <;> rfl

theorem endPartial_head (p : Port) (s : State) : (endPartial p s).head = s.head := by
  rcases endPartial_cases p s with h | h <;> rw [h]
  cases p <;> rfl

theorem endPartial_replies (p : Port) (s : State) : (endPartial p s).replies = s.replies := by
  rcases endPartial_cases p s with h | h <;> rw [h]
  cases p <;> rfl

theorem endPartial_modules (p : Port) (s : State) : (endPartial p s).modules = s.modules := by
  rcases endPartial_cases p s with h | h <;> rw [h]
  cases p <;> rfl

theorem endPartial_pending (p : Port) (s : State) : (endPartial p s).pending = s.pending := by
  rcases endPartial_cases p s with h | h <;> rw [h]
  cases p <;> rfl

/-- A whole frame that the block is not held against is routed, and what follows at once follows. -/
theorem frameArrives_of_not_holding {p : Port} {f : Frame} {s : State} (h : s.holding = false) :
    frameArrives p f s = settle (route p f (endPartial p s)) := by
  simp [frameArrives, h]

/-- A Request frame that is no restart and finds an empty queue joins it. -/
theorem requestFrame_joins {tag code : Byte} {args : List Byte} {s : State} (h : s.holding = false)
    (hl : args.length ≤ 238) (hr : (Request.mk tag code args false).restartForm = none) (hq : s.requests = []) :
    requestFrame tag code args s =
      settle { endPartial .console s with requests := [⟨tag, code, args, false⟩] } := by
  have hp : args.length + 1 < Config.maxPayload := by simp only [Config.maxPayload]; omega
  rw [requestFrame, frameArrives_of_not_holding h]
  simp [route, hp, routeOwn, requestArrives, hr, joinQueue, endPartial_requests, hq, Config.requestEntries]

/-- With a request ready at the head of the queue, its execution is the step due. -/
theorem dueStep_of_ready {s : State} {r : Request} {rest : List Request} (hh : s.holding = false)
    (hd : s.head = .ready) (hr : s.requests = r :: rest) : dueStep s = some (carryOut r s) := by
  simp [dueStep, hh, flushStep, slotStep, executeStep, hd, hr]

/-- A reply that waits with a slot free enters the reply queue. -/
theorem dueStep_of_awaiting {s : State} {r : Reply} (hh : s.holding = false) (hd : s.head = .awaitingSlot r)
    (hr : s.replies.length < Config.replyEntries) :
    dueStep s = some { s with replies := s.replies ++ [r], requests := s.requests.tail, head := .ready } := by
  simp [dueStep, hh, flushStep, slotStep, hd, hr]

/-- A request alone in the queue is executed at once, and its reply enters the reply queue where a slot is free. -/
theorem settle_request {e u : State} {r : Request} {a : Answer} (hh : e.holding = false) (hd : e.head = .ready)
    (hc : carryOut r { e with requests := [r] } = answer r a { u with requests := [r] }) (hu : u.holding = false)
    (hr : u.replies.length < Config.replyEntries) :
    settle { e with requests := [r] } =
      settle { u with replies := u.replies ++ [⟨r.tag, r.code, a⟩], requests := [], head := .ready } := by
  have h1 := dueStep_of_ready (s := { e with requests := [r] }) (r := r) (rest := []) hh hd rfl
  rw [hc] at h1
  have h2 := dueStep_of_awaiting (s := answer r a { u with requests := [r] }) (r := ⟨r.tag, r.code, a⟩) hu rfl hr
  rw [settle_of_due h1, settle_of_due h2]
  rfl

/-! ## Execution by code (R18) -/

section ByCode
variable (tag : Byte) (args : List Byte) (w : Bool) (s : State)

theorem carryOut_readStatus : carryOut ⟨tag, 1, args, w⟩ s = readStatus ⟨tag, 1, args, w⟩ s := by simp [carryOut]
theorem carryOut_readSettings : carryOut ⟨tag, 2, args, w⟩ s = readSettings ⟨tag, 2, args, w⟩ s := by simp [carryOut]
theorem carryOut_writeSettings : carryOut ⟨tag, 3, args, w⟩ s = writeSettings ⟨tag, 3, args, w⟩ s := by simp [carryOut]
theorem carryOut_readModule : carryOut ⟨tag, 4, args, w⟩ s = readModule ⟨tag, 4, args, w⟩ s := by simp [carryOut]
theorem carryOut_writeModule : carryOut ⟨tag, 5, args, w⟩ s = writeModule ⟨tag, 5, args, w⟩ s := by simp [carryOut]
theorem carryOut_readElement : carryOut ⟨tag, 6, args, w⟩ s = readElement ⟨tag, 6, args, w⟩ s := by simp [carryOut]
theorem carryOut_writeElement : carryOut ⟨tag, 7, args, w⟩ s = writeElement ⟨tag, 7, args, w⟩ s := by simp [carryOut]
theorem carryOut_readLane : carryOut ⟨tag, 8, args, w⟩ s = readLane ⟨tag, 8, args, w⟩ s := by simp [carryOut]
theorem carryOut_writeLane : carryOut ⟨tag, 9, args, w⟩ s = writeLane ⟨tag, 9, args, w⟩ s := by simp [carryOut]
theorem carryOut_readProfile : carryOut ⟨tag, 10, args, w⟩ s = readProfile ⟨tag, 10, args, w⟩ s := by simp [carryOut]
theorem carryOut_writeProfile : carryOut ⟨tag, 11, args, w⟩ s = writeProfile ⟨tag, 11, args, w⟩ s := by simp [carryOut]
theorem carryOut_readCounters : carryOut ⟨tag, 12, args, w⟩ s = readCounters ⟨tag, 12, args, w⟩ s := by simp [carryOut]
theorem carryOut_restartRequest : carryOut ⟨tag, 13, args, w⟩ s = restartRequest ⟨tag, 13, args, w⟩ s := by simp [carryOut]
theorem carryOut_controlCapture : carryOut ⟨tag, 14, args, w⟩ s = controlCapture ⟨tag, 14, args, w⟩ s := by simp [carryOut]
theorem carryOut_captureRead : carryOut ⟨tag, 15, args, w⟩ s = captureRead ⟨tag, 15, args, w⟩ s := by simp [carryOut]

end ByCode

end Sys2Proof.Machine
end

