-- ==== Sys2Proof/Safety.lean ====
section
/-! DEFINITION. What counts as a safe run: a step answers a next state, never a fault or a refusal. -/

namespace Sys2Proof.Machine

/-- The step answers a next state. -/
def StepSafe (s : State) : Prop := ∃ t, step s = .next t

end Sys2Proof.Machine
end

