-- ==== Sys2Proof/WellFormed.lean ====
section
/-! DEFINITION. Which commands are of the form their row speaks of. `exec` gives every command a meaning, well-formed
or not (a frame that does not fit its kind is malformed, R6); these checks say which operands a sender of the row can
have. What a row says about the state (a module that is enabled, a timer that is due) is not checked here. -/

namespace Sys2Proof

/-- A module address, 1..62 (spec/01, Addresses and frame kinds). -/
def isModuleAddr (a : BitVec 6) : Bool := 1 ≤ a.toNat && a.toNat ≤ 62

/-- A frame's payload is at most 240 bytes (R5). -/
def Frame.fits (f : Frame) : Bool := f.payload.length ≤ Config.maxPayload

/-- The frames a pass-through can be made of (R7): not Element Report or Sweep End from address 0 or 63. -/
def Frame.isPassable (f : Frame) : Bool :=
  f.fits && (!(f.kind == 1 || f.kind == 2) || isModuleAddr f.addr)

/-- The frames R7 and R9 reject for their address. -/
def Frame.isMisaddressed (p : Port) (f : Frame) : Bool :=
  f.fits && match p with
    | .surface => (f.kind == 1 || f.kind == 2) && !isModuleAddr f.addr
    | .console => f.addr == 63 && !(f.kind == 8 || f.kind == 9)

/-- The console frames the merger takes without watching (R9, R134). -/
def Frame.isForwarded (f : Frame) : Bool :=
  f.fits && f.addr != 63 && f.kind != 5 && !(f.kind == 6 && f.addr == 0)

/-- The operands of each row lie in the ranges of R8, R10 and R17; request arguments are any bytes, since a request
out of range is answered, not malformed (R10). -/
def Instr.wellFormed : Instr → Bool
  | .tick _ => true
  | .elementReport a es => isModuleAddr a && 1 ≤ es.length && es.length ≤ 80
  | .sweepEnd a _ _ _ => isModuleAddr a
  | .passThrough f => f.isPassable
  | .malformedFrame _ => true
  | .misaddressed p f => f.isMisaddressed p
  | .request _ _ args => args.length ≤ 238
  | .serviceDone l => l.toNat ≤ 7
  | .indicator a n m => a != 63 && n.toNat ≤ 63 && m.toNat ≤ 3
  | .pace p => p.toNat ≤ 1
  | .forwardedFrame f => f.isForwarded
  | .readStatus _ => true
  | .readSettings _ => true
  | .writeSettings _ _ _ _ _ _ => true
  | .readModule _ _ => true
  | .writeModule _ _ _ _ _ => true
  | .readElement _ _ => true
  | .writeElement _ _ _ _ ps => ps.length ≤ 234
  | .readLane _ _ => true
  | .writeLane _ _ _ _ _ _ _ _ => true
  | .readProfile _ _ => true
  | .writeProfile _ _ _ _ _ => true
  | .readCounters _ _ => true
  | .coldRequest _ => true
  | .warmRequest _ => true
  | .captureControl _ _ _ _ => true
  | .captureRead _ _ => true
  | .awaitingSlotEnd => true
  | .flushComplete => true
  | .consoleSelection => true
  | .consoleFrameSent => true
  | .surfaceFrameStart => true
  | .surfaceFrameSent => true
  | .pauseInAssert => true
  | .pauseInDeassert => true
  | .linkBreak => true
  | .linkBreakEnd => true
  | .powerOnReset => true
  | .powerOnResetRelease => true
  | .watchdogExpiry a => isModuleAddr a
  | .repeatTimerExpiry i => i < Config.elementCount
  | .paceTimerExpiry i => i < Config.elementCount
  | .serviceTimerExpiry _ => true
  | .returnToMarking => true
  | .characterEvent _ _ => true

end Sys2Proof
end

