-- ==== Sys2Proof/Certificates/Slice0/Obligations.lean ====
section
/-! DEFINITION. The statements for the provers. Where an event's own effect is followed by the steps due at once, the
statement gives the state before them and `settle` for them (log 1). -/

open Sys2Proof Sys2Proof.Machine

/-! ## Terms of the statements -/

/-- A number below 65536 as two bytes, high byte first (R17). -/
def Sys2Proof.Machine.twoBytes (n : Nat) : List Byte := [BitVec.ofNat 8 (n / 256), BitVec.ofNat 8 n]

/-- The management unit has nothing in flight, room for a reply, and the lines are not held. -/
def Sys2Proof.Machine.State.managementIdle (s : State) : Prop :=
  s.holding = false ∧ s.requests = [] ∧ s.head = .ready ∧ s.replies.length < 4

/-- `s` with a reply at the back of the reply queue (R147). -/
def Sys2Proof.Machine.State.replied (s : State) (tag code : Byte) (a : Answer) : State :=
  { s with replies := s.replies ++ [⟨tag, code, a⟩] }

/-- The commands that come in on a receive line: whole frames, requests, malformed frames and characters. -/
def Sys2Proof.Instr.isReceived : Instr → Bool
  | .elementReport _ _ | .sweepEnd _ _ _ _ | .passThrough _ | .malformedFrame _ | .misaddressed _ _ | .request _ _ _
  | .serviceDone _ | .indicator _ _ _ | .pace _ | .forwardedFrame _ | .readStatus _ | .readSettings _
  | .writeSettings _ _ _ _ _ _ | .readModule _ _ | .writeModule _ _ _ _ _ | .readElement _ _ | .writeElement _ _ _ _ _
  | .readLane _ _ | .writeLane _ _ _ _ _ _ _ _ | .readProfile _ _ | .writeProfile _ _ _ _ _ | .readCounters _ _
  | .coldRequest _ | .warmRequest _ | .captureControl _ _ _ _ | .captureRead _ _ | .characterEvent _ _ => true
  | _ => false

/-- The state after a cold restart's steps up to its Restarted notice (R157, R158): everything reset but the input
lines and the queue of commands, and the notice waiting on lane 0. -/
def Sys2Proof.Machine.State.coldStart (s : State) (cause : Cause) : State :=
  { State.blank with
    pauseIn := s.pauseIn, consoleRx := s.consoleRx, resetCause := cause, pending := s.pending,
    lanes := Vector.ofFn fun l =>
      ⟨⟨l.val, false, .plain, false, 16, 0⟩, if l = 0 then [.restarted cause.code] else [], 0, none, false⟩ }

/-- The enabled modules, in address order. -/
def Sys2Proof.Machine.State.enabledModules (s : State) : List ModuleIx :=
  (List.finRange 62).filter fun m => (s.module m).entry.enabled

/-- What a warm restart leaves before it completes (R157): the tables and the capture filter kept, everything else
reset, a module Waiting where its entry is enabled, every context idle under its entry. -/
def Sys2Proof.Machine.State.warmReset (s : State) : State :=
  { State.blank with
    settings := s.settings, profiles := s.profiles,
    lanes := Vector.ofFn fun l => ⟨(s.lane l).entry, [], 0, none, false⟩,
    modules := Vector.ofFn fun m =>
      ⟨(s.module m).entry, if (s.module m).entry.enabled then .waiting else .unmapped, none, ⟨[], false, 0⟩, 0, .brisk,
        none, false, 0, 0, 0, .recording⟩,
    elements := s.elements.map fun p => (p.1, { p.2 with control := p.2.control.toIdle }),
    capture := ⟨[], [], false, s.capture.filter, 0⟩,
    pauseIn := s.pauseIn, consoleRx := s.consoleRx, resetCause := s.resetCause, pending := s.pending }

/-- The state after a warm restart's steps up to its Restarted notice (R144, R158): the Pace frame, a Resync Request
for each of the first 31 enabled modules, the others owed, and the notice waiting on lane 0. -/
def Sys2Proof.Machine.State.warmStart (s : State) (cause : Cause) : State :=
  { s.warmReset with
    resetCause := cause,
    lanes := Vector.ofFn fun l => ⟨(s.lane l).entry, if l = 0 then [.restarted cause.code] else [], 0, none, false⟩,
    modules := Vector.ofFn fun m =>
      { s.warmReset.module m with resyncOwed := (s.enabledModules.drop 31).contains m },
    outbound := ⟨⟨6, 0, [0]⟩, false⟩ ::
      (s.enabledModules.take 31).map fun m => ⟨⟨7, BitVec.ofNat 6 (m.val + 1), []⟩, false⟩ }

/-- Every running timer with one tick less to go (R1). -/
def Sys2Proof.Machine.State.ticked (s : State) : State :=
  { s with
    elements := s.elements.map fun p => (p.1, { p.2 with control := match p.2.control with
      | .key q c => .key q { c with timer := c.timer.map (· - 1) }
      | .level q c => .level q { c with timer := c.timer.map (· - 1) }
      | c => c })
    modules := Vector.ofFn fun m => { s.module m with watchdog := (s.module m).watchdog.map (· - 1) }
    lanes := Vector.ofFn fun l => { s.lane l with timer := (s.lane l).timer.map (· - 1) } }

/-- No timer has reached its tick event. -/
def Sys2Proof.Machine.State.noneDue (s : State) : Prop :=
  (∀ m, (s.module m).watchdog ≠ some 0) ∧ (∀ l, (s.lane l).timer ≠ some 0) ∧
    ∀ p ∈ s.elements, p.2.control.repeatTimer ≠ some 0 ∧ p.2.control.paceTimer ≠ some 0

/-- The commands of the expiries that are due, in the order of log 3, which is the model's choice: watchdogs by address,
repeat timers by index, pace timers by index, service timers by lane. -/
def Sys2Proof.Machine.State.dueExpiries (s : State) : List Instr :=
  ((List.finRange 62).filter fun m => decide ((s.module m).watchdog = some 0)).map (fun m =>
      .watchdogExpiry (BitVec.ofNat 6 (m.val + 1))) ++
    (s.elements.filter fun p => match p.2.control with
      | .key _ c => decide (c.timer = some 0)
      | _ => false).map (fun p => .repeatTimerExpiry p.1) ++
    (s.elements.filter fun p => match p.2.control with
      | .level _ c => decide (c.timer = some 0)
      | _ => false).map (fun p => .paceTimerExpiry p.1) ++
    ((List.finRange 8).filter fun l => decide ((s.lane l).timer = some 0)).map .serviceTimerExpiry

/-- The state a command leaves. -/
def Sys2Proof.Machine.State.afterCommand (s : State) (c : Instr) : State :=
  match exec c s with
  | .next t => t
  | .fault _ => s
  | .refused _ => s

/-- A console frame whose kind R10 gives a fit it does not meet. -/
def Sys2Proof.Frame.misfitsConsole (f : Frame) : Prop :=
  (f.kind = 8 ∧ f.addr = 63 ∧ f.payload.length < 2) ∨
    (f.kind = 9 ∧ f.addr = 63 ∧ ¬ ∃ l : Byte, f.payload = [l] ∧ l.toNat ≤ 7) ∨
    (f.kind = 5 ∧ f.addr ≠ 63 ∧ ¬ ∃ n mode : Byte, f.payload = [n, mode] ∧ n.toNat ≤ 63 ∧ mode.toNat ≤ 3) ∨
    (f.kind = 6 ∧ f.addr = 0 ∧ ¬ ∃ p : Byte, f.payload = [p] ∧ p.toNat ≤ 1)

/-- A surface frame whose kind R8 gives a fit it does not meet. -/
def Sys2Proof.Frame.misfitsSurface (f : Frame) : Prop :=
  (f.kind = 1 ∧ ¬ (f.payload.length % 3 = 0 ∧ 3 ≤ f.payload.length ∧ f.payload.length ≤ 240)) ∨
    (f.kind = 2 ∧ f.payload.length ≠ 3)

/-- The number of argument bytes that R18 states for a code; none for Write Element, whose number goes by its class byte,
and for a code that is no request. -/
def Sys2Proof.Machine.argumentLength : Nat → Option Nat
  | 1 => some 0
  | 2 => some 0
  | 3 => some 7
  | 4 => some 1
  | 5 => some 5
  | 6 => some 2
  | 8 => some 1
  | 9 => some 8
  | 10 => some 1
  | 11 => some 6
  | 12 => some 1
  | 13 => some 1
  | 14 => some 3
  | 15 => some 1
  | _ => none

/-- The request of this code and these arguments is refused for `why` by its code, its length or its restart form (R18, the
first check of R148, and R156): a code of 0 or above 15; a length other than that of the code; a Write Element whose class
byte is above 4, or whose length is not that of its class, a class byte that is not there being judged as log 17 says; a
Restart whose form is above 1. -/
def Sys2Proof.Machine.turnedAway (code : Byte) (args : List Byte) (why : Reason) : Prop :=
  ((code = 0 ∨ 15 < code.toNat) ∧ why = .badRequest) ∨
    ((∃ n, argumentLength code.toNat = some n ∧ args.length ≠ n) ∧ why = .badRequest) ∨
    (code = 7 ∧ (∃ c, args[2]? = some c ∧ 4 < c.toNat) ∧ why = .badArgument) ∨
    (code = 7 ∧ (∀ c, args[2]? = some c → c.toNat ≤ 4 ∧ ∀ n, paramLength c.toNat = some n → args.length ≠ 4 + n) ∧
      why = .badRequest) ∨
    (code = 13 ∧ (∃ f, args = [f] ∧ 1 < f.toNat) ∧ why = .badArgument)

/-- The element table is canonical and lists indices 0 to 1023 only (R44, log 20). -/
def Sys2Proof.Machine.State.tableOk (s : State) : Prop :=
  Table.wf Element.cold s.elements = true ∧ ∀ p ∈ s.elements, p.1 < 1024

/-- The fields of an element's entry and context within their ranges (R45, R50, R52, R104). -/
def Sys2Proof.Machine.Control.inRange : Control → Prop
  | .ignore => True
  | .key p c => p.debounceDown ≤ 15 ∧ p.debounceUp ≤ 15 ∧ c.settle ≤ 15 ∧ c.bounce ≤ 255 ∧ c.sent ≤ 255
  | .encoder p c => 1 ≤ p.limit ∧ p.limit ≤ 127 ∧ p.threshold ≤ 4 ∧ 2 ≤ p.factor ∧ p.factor ≤ 8 ∧
    -p.resolution.steps < c.sub ∧ c.sub < p.resolution.steps ∧ -32767 ≤ c.carry ∧ c.carry ≤ 32767 ∧ c.skips ≤ 255
  | .level p c => p.deadband ≤ 255 ∧ p.pace ≤ 1000 ∧ p.low ≤ p.high ∧ p.high ≤ 1023 ∧ c.raw ≤ 1023 ∧
    (∀ v, c.lastGiven = some v → v ≤ 1023) ∧ ∀ v, c.held = some v → v ≤ 1023
  | .raw _ => True

/-- `s` with Range Errors one higher, staying at 65535 (R43, R47). -/
def Sys2Proof.Machine.State.rangeCounted (s : State) : State :=
  { s with counters := { s.counters with rangeErrors :=
      if s.counters.rangeErrors < 65535 then s.counters.rangeErrors + 1 else s.counters.rangeErrors } }

/-- `t` is `s` with frame `f` at the back of the outbound queue and watched as an Indicator for number `n` (R75, R133,
R137): each key whose entry names `n`, bound to the module of address `a` or, for address 0, to any, takes the echo bit
`on`, echo-pending clear, and in Latch mode the latched state; `except` is the key a generated frame was requested for.
No other element and nothing else changes. -/
def Sys2Proof.Machine.State.watched (s t : State) (f : OutFrame) (a : BitVec 6) (n : Nat) (on : Bool)
    (except : Option Nat) : Prop :=
  t = { s with outbound := s.outbound ++ [f], elements := t.elements } ∧
    ∀ i, (∀ p c m, (s.element i).control = .key p c → (∃ k, p.echo = some k ∧ k.val = n) → s.bound i = some m →
        (a = 0 ∨ a.toNat = m.val + 1) → except ≠ some i →
        t.element i = { s.element i with control := .key p { c with
          echoBit := on, echoPending := false,
          latched := match p.echoMode with | .latch => on | .follow => c.latched } }) ∧
      ((¬ ∃ p c m k, (s.element i).control = .key p c ∧ p.echo = some k ∧ k.val = n ∧ s.bound i = some m ∧
        (a = 0 ∨ a.toNat = m.val + 1) ∧ except ≠ some i) → t.element i = s.element i)

/-- The generated Indicator frame for lamp `n` of module `m` (R135). -/
def Sys2Proof.Machine.lampFrame (m : ModuleIx) (n : Fin 64) (on : Bool) : OutFrame :=
  ⟨⟨5, BitVec.ofNat 6 (m.val + 1), [BitVec.ofNat 8 n.val, if on then 1 else 0]⟩, false⟩

/-- `t` is `s` with the Indicator frame for lamp `n` of module `m`, requested for the key at index `i`, queued and
watched (R135, R137). -/
def Sys2Proof.Machine.State.lampQueued (s t : State) (m : ModuleIx) (n : Fin 64) (on : Bool) (i : Nat) : Prop :=
  s.watched t (lampFrame m n on) (BitVec.ofNat 6 (m.val + 1)) n.val on (some i)

/-- The lamps that the reset of the given indices asks to be turned off, in their order, once the entry `x` is installed
(R51, logs 18 and 29): that of each key whose echo bit is 1; where `x` binds the key, a frame sent before for the same
lamp has already made its echo bit 0. -/
def Sys2Proof.Machine.State.lampsOff (s : State) (x : ModuleEntry) : List (Fin 64) → List Nat → List (Fin 64)
  | _, [] => []
  | sent, i :: rest =>
    match (s.element i).control with
    | .key p c =>
      match p.echo with
      | some n =>
        if c.echoBit = true ∧ ¬ (x.binds i = true ∧ n ∈ sent) then n :: s.lampsOff x (n :: sent) rest
        else s.lampsOff x sent rest
      | none => s.lampsOff x sent rest
    | _ => s.lampsOff x sent rest

/-- The data of Read Status (R149); `waited` is the record of R145. -/
def Sys2Proof.Machine.State.statusData (s : State) (waited : Bool) : List Byte :=
  [BitVec.ofNat 8 s.resetCause.code, s.chainPace.byte, BitVec.ofNat 8 s.stack.length] ++
    ((s.stack.map fun (l : Fin 8) => BitVec.ofNat 8 l.val) ++ List.replicate 8 255).take 8 ++
    [BitVec.ofNat 8 (128 - (s.queued + s.noticeInFlight))] ++
    ((List.finRange 8).map fun l => BitVec.ofNat 8 (s.lane l).fifo.length) ++
    [BitVec.ofNat 8 s.passQueue.length, BitVec.ofNat 8 (32 - s.outbound.length), if s.bulkHold then 1 else 0,
      if waited then 1 else 0]

/-! ## The queue of commands -/

/-- Taking the front command of the queue is executing it with the rest. The spec names the commands as its steps and has
no queue of them: the queue is the model's own (log 19, DESIGN CHOICE). -/
def Obligations.StepExecutesFrontCommand : Prop :=
  ∀ (c : Instr) (rest : List Instr) (s : State),
    step { s with pending := c :: rest } = exec c { s with pending := rest }

/-- No command faults or is refused, and none touches the commands that wait; on an empty queue the block idles (log
19, the model's choice). -/
def Obligations.CommandsAnswerAndKeepQueue : Prop :=
  (∀ (c : Instr) (s : State), ∃ t, exec c s = .next t ∧ t.pending = s.pending) ∧
  (∀ s : State, s.pending = [] → step s = .next s)

/-! ## Reset -/

/-- The state after power-on (R11, R19, R20, R44, R68, R114, R115, R132, R144, R145, R150, R158, R159, R160). That the
selection of the Restarted notice has been made, with pause-in deasserted, is log 11; `State.blank` is the state before it. -/
def Obligations.ResetHoldsTheSpecValues : Prop :=
  State.reset.settings = ⟨250, 3000, 40, 7, 8⟩ ∧ (∀ p : Fin 8, State.reset.profiles[p] = ⟨400, 80, 0⟩) ∧
    (∀ l : Fin 8, State.reset.lane l = ⟨⟨l.val, false, .plain, false, 16, 0⟩, [], 0, none, false⟩) ∧
    (∀ m : ModuleIx, State.reset.module m =
      ⟨⟨false, 0, 1⟩, .unmapped, none, ⟨[], false, 0⟩, 0, .brisk, none, false, 0, 0, 0, .recording⟩) ∧
    (∀ i : Nat, State.reset.element i = ⟨1, .ignore⟩) ∧ State.reset.surfaceFramer = .hunting ∧
    State.reset.consoleFramer = .hunting ∧ State.reset.counters = ⟨0, 0, 0, 0, 0, 0, 0, 0⟩ ∧
    State.reset.detector = .clear ∧ State.reset.consoleTx = some (.notice ⟨.restarted, 0, 0, 0, 1, none, {}, none⟩) ∧
    State.reset.freeSlots = 127 ∧ State.reset.burst = 0 ∧ State.reset.passQueue = [] ∧ State.reset.systemLost = 0 ∧
    State.reset.stack = [] ∧ State.reset.outbound = [] ∧ State.reset.surfaceSending = false ∧
    State.reset.chainPace = .brisk ∧ State.reset.paceOwed = false ∧ State.reset.requests = [] ∧
    State.reset.replies = [] ∧ State.reset.resetCause = .powerOn ∧ State.reset.capture = ⟨[], [], false, none, 0⟩ ∧
    State.reset.pauseOut = false ∧ State.reset.bulkHold = false ∧ State.blank = { State.reset with consoleTx := none }

/-! ## The link -/

/-- The check (R4): its start, its step for a byte and for a bit, where it stands in a frame, and the value the rule
gives. -/
def Obligations.CheckIsTheStatedCrc : Prop :=
  check [] = 0xFFFF ∧ (∀ (bytes : List Byte) (b : Byte), check (bytes ++ [b]) = checkByte (check bytes) b) ∧
    (∀ (r : BitVec 16) (b : Byte), checkByte r b =
      checkBit (checkBit (checkBit (checkBit (checkBit (checkBit (checkBit (checkBit r
        (b.getMsbD 0)) (b.getMsbD 1)) (b.getMsbD 2)) (b.getMsbD 3)) (b.getMsbD 4)) (b.getMsbD 5)) (b.getMsbD 6))
        (b.getMsbD 7)) ∧
    (∀ (r : BitVec 16) (x : Bool), checkBit r x =
      if Bool.xor x r.msb then BitVec.xor (r.shiftLeft 1) 0x1021 else r.shiftLeft 1) ∧
    (∀ f : Frame, frameBytes f =
      [f.kind.setWidth 8, f.addr.setWidth 8, BitVec.ofNat 8 f.payload.length] ++ f.payload ++
        twoBytes (check ([f.kind.setWidth 8, f.addr.setWidth 8, BitVec.ofNat 8 f.payload.length] ++ f.payload)).toNat) ∧
    check [49, 50, 51, 52, 53, 54, 55, 56, 57] = 0x29B1

/-- The table of the framer (R5) with the checks of a complete frame (R6): every state against every event, while the
lines are not held. It rests on the model's choices of log 1, and on log 27 for the character that completes a frame. -/
def Obligations.FramerFollowsItsTable : Prop :=
  ∀ (p : Port) (s : State), s.holding = false →
    (s.framer p = .hunting →
      (∀ b, exec (.characterEvent p (.start b)) s = .next (s.setFramer p (.address b))) ∧
        (∀ b, exec (.characterEvent p (.continuation b)) s = .next s) ∧ exec (.characterEvent p .error) s = .next s) ∧
    (s.framer p ≠ .hunting →
      (∀ b, exec (.characterEvent p (.start b)) s = .next ((s.countFrameError p).setFramer p (.address b))) ∧
        exec (.characterEvent p .error) s = .next ((s.countFrameError p).setFramer p .hunting)) ∧
    (∀ k b, s.framer p = .address k → exec (.characterEvent p (.continuation b)) s = .next (s.setFramer p (.length k b))) ∧
    (∀ k a b, s.framer p = .length k a → exec (.characterEvent p (.continuation b)) s =
      .next (if b.toNat ≤ 240 then s.setFramer p (.body k a b []) else (s.countFrameError p).setFramer p .hunting)) ∧
    (∀ k a l got b, s.framer p = .body k a l got → got.length + 1 < l.toNat + 2 →
      exec (.characterEvent p (.continuation b)) s = .next (s.setFramer p (.body k a l (got ++ [b])))) ∧
    (∀ k a l payload hi lo, s.framer p = .body k a l (payload ++ [hi]) → payload.length = l.toNat →
      exec (.characterEvent p (.continuation lo)) s =
        .next (if twoBytes (check (k :: a :: l :: payload)).toNat = [hi, lo] ∧ k.toNat < 16 ∧ a.toNat < 64 then
            settle (route p ⟨k.setWidth 4, a.setWidth 6, payload⟩ (s.setFramer p .hunting))
          else (s.setFramer p .hunting).countFrameError p))

/-- Receiving a frame character by character is receiving it whole (R2 to R6, logs 8 and 27): from any state whose lines
are not held, the characters of a frame, one command each, lead where the frame's own command leads. The characters of a
frame are its bytes, the first with the frame-start mark; each is sent as a start bit, the eight bits of its byte, least
significant first, the mark and a stop bit (R2). A whole frame at a port whose framer is Hunting is routed (R6), and each
row of a frame is the frame with the kind, address and payload of its layout (R17, log 9). -/
def Obligations.CharactersMakeTheFrame : Prop :=
  (∀ (f : Frame) (rest : List Instr) (s : State), s.holding = false → f.payload.length ≤ 240 →
    Host.Core.run Sys2Proof.core (frameCharacters f).length
        { s with pending := (frameCharacters f).map (.characterEvent .surface) ++ rest } =
      exec (.passThrough f) { s with pending := rest } ∧
    Host.Core.run Sys2Proof.core (frameCharacters f).length
        { s with pending := (frameCharacters f).map (.characterEvent .console) ++ rest } =
      exec (.forwardedFrame f) { s with pending := rest }) ∧
  (∀ f : Frame, ∃ b bs, frameBytes f = b :: bs ∧ frameCharacters f = .start b :: bs.map .continuation ∧
    frameBits f = characterBits b true ++ (bs.map (characterBits · false)).flatten) ∧
  (∀ (b : Byte) (mark : Bool), characterBits b mark =
    [.start, .data (b.getLsbD 0), .data (b.getLsbD 1), .data (b.getLsbD 2), .data (b.getLsbD 3), .data (b.getLsbD 4),
      .data (b.getLsbD 5), .data (b.getLsbD 6), .data (b.getLsbD 7), .data mark, .stop]) ∧
  (∀ (f : Frame) (s : State), s.holding = false →
    (s.surfaceFramer = .hunting → exec (.passThrough f) s = .next (settle (route .surface f s))) ∧
    (s.consoleFramer = .hunting → exec (.forwardedFrame f) s = .next (settle (route .console f s)))) ∧
  (∀ (a : BitVec 6) (es : List ReportEntry) (x y z : Byte) (args : List Byte) (f : Frame) (s : State),
    exec (.elementReport a es) s =
      exec (.passThrough ⟨1, a, (es.map fun r => r.element :: twoBytes r.value.toNat).flatten⟩) s ∧
    exec (.sweepEnd a x y z) s = exec (.passThrough ⟨2, a, [x, y, z]⟩) s ∧
    exec (.misaddressed .surface f) s = exec (.passThrough f) s ∧
    exec (.misaddressed .console f) s = exec (.forwardedFrame f) s ∧
    exec (.request x y args) s = exec (.forwardedFrame ⟨8, 63, x :: y :: args⟩) s ∧
    exec (.serviceDone x) s = exec (.forwardedFrame ⟨9, 63, [x]⟩) s ∧
    exec (.indicator a x y) s = exec (.forwardedFrame ⟨5, a, [x, y]⟩) s ∧
    exec (.pace x) s = exec (.forwardedFrame ⟨6, 0, [x]⟩) s)

/-- While a link break or the reset input holds the block, nothing received changes anything (R15, R158). The block is
held while the detector is Broken or the reset input is asserted, and at no other time. -/
def Obligations.HeldBlockIgnoresItsLines : Prop :=
  (∀ (c : Instr) (s : State), c.isReceived = true → s.holding = true → exec c s = .next s) ∧
  (∀ s : State, s.holding = true ↔ s.detector = .broken ∨ s.powerReset = true)

/-- A malformed frame is counted once in its port's counter, which stays at 65535 (R6, R11); a frame discarded for its
address is counted in Misaddressed (R7, R9); neither goes anywhere. That MALFORMED_FRAME with a partial frame in hand is
the end of that frame, counts once and leaves the framer Hunting is the model's reading (log 24, DEDUCED). A frame that
does not fit its kind is malformed (R6): by R8 an Element Report of an enabled module whose length is not a multiple of 3
from 3 to 240, and a Sweep End of another length than 3; by R10 a Request below two bytes, a Service Done that is not one
lane byte up to 7, an Indicator that is not a number up to 63 and a mode up to 3, and a broadcast Pace that is not one byte
up to 1. A frame of more than 240 bytes is malformed at either port (log 24). A partial frame that a new frame ends is
malformed and counted too (R5, log 8). It rests on the model's choices of log 1 and log 8. -/
def Obligations.DiscardedFramesAreCounted : Prop :=
  (∀ s : State, s.holding = false →
    exec (.malformedFrame .surface) s = .next { s with
      surfaceFramer := .hunting,
      counters := { s.counters with surfaceErrors :=
        if s.counters.surfaceErrors < 65535 then s.counters.surfaceErrors + 1 else s.counters.surfaceErrors } } ∧
    exec (.malformedFrame .console) s = .next { s with
      consoleFramer := .hunting,
      counters := { s.counters with consoleErrors :=
        if s.counters.consoleErrors < 65535 then s.counters.consoleErrors + 1 else s.counters.consoleErrors } }) ∧
  (∀ (p : Port) (f : Frame) (s e : State), s.holding = false → f.isMisaddressed p = true → e = endPartial p s →
    exec (.misaddressed p f) s = .next (settle { e with counters := { e.counters with misaddressed :=
      if e.counters.misaddressed < 65535 then e.counters.misaddressed + 1 else e.counters.misaddressed } })) ∧
  (∀ s : State,
    s.countFrameError .surface = { s with counters := { s.counters with surfaceErrors :=
      if s.counters.surfaceErrors < 65535 then s.counters.surfaceErrors + 1 else s.counters.surfaceErrors } } ∧
    s.countFrameError .console = { s with counters := { s.counters with consoleErrors :=
      if s.counters.consoleErrors < 65535 then s.counters.consoleErrors + 1 else s.counters.consoleErrors } } ∧
    endPartial .surface s =
      (if s.surfaceFramer = .hunting then s else { s.countFrameError .surface with surfaceFramer := .hunting }) ∧
    endPartial .console s =
      (if s.consoleFramer = .hunting then s else { s.countFrameError .console with consoleFramer := .hunting })) ∧
  (∀ (f : Frame) (s e : State), s.holding = false → e = endPartial .surface s →
    ((f.misfitsSurface ∧ ∃ m, moduleOf f.addr = some m ∧ (s.module m).entry.enabled = true) ∨ 240 < f.payload.length) →
    exec (.passThrough f) s = .next (settle (e.countFrameError .surface))) ∧
  (∀ (f : Frame) (s e : State), s.holding = false → e = endPartial .console s →
    (f.misfitsConsole ∨ 240 < f.payload.length) →
    exec (.forwardedFrame f) s = .next (settle (e.countFrameError .console))) ∧
  (∀ (a : BitVec 6) (es : List ReportEntry) (m : ModuleIx) (s e : State), s.holding = false →
    e = endPartial .surface s → moduleOf a = some m → (s.module m).entry.enabled = true → (es = [] ∨ 80 < es.length) →
    exec (.elementReport a es) s = .next (settle (e.countFrameError .surface))) ∧
  (∀ (a : BitVec 6) (x y : Byte) (args : List Byte) (s e : State), s.holding = false → e = endPartial .console s →
    (a ≠ 63 → (63 < x.toNat ∨ 3 < y.toNat) →
      exec (.indicator a x y) s = .next (settle (e.countFrameError .console))) ∧
    (1 < x.toNat → exec (.pace x) s = .next (settle (e.countFrameError .console))) ∧
    (238 < args.length → exec (.request x y args) s = .next (settle (e.countFrameError .console))))

/-- A surface frame that is not consumed joins the back of the pass-through queue unchanged, or is dropped and counted
when the queue holds 16 (R7, R130, R131); a console frame to the chain that is not watched joins the outbound queue as
a forwarded frame while fewer than 28 forwarded frames and fewer than 32 frames stand in it, and is discarded and
counted otherwise (R134, R143). It rests on the model's choices of log 1 and log 8. -/
def Obligations.CarriedFramesAreQueuedOrDropped : Prop :=
  (∀ (f : Frame) (s e : State), s.holding = false → f.payload.length ≤ 240 → e = endPartial .surface s →
    ((f.kind ≠ 1 ∧ f.kind ≠ 2) ∨ ∃ m, moduleOf f.addr = some m ∧ (s.module m).entry.enabled = false) →
    exec (.passThrough f) s = .next (settle
      (if e.passQueue.length < 16 then { e with passQueue := e.passQueue ++ [f] }
        else { e with counters := { e.counters with passDrops :=
          if e.counters.passDrops < 65535 then e.counters.passDrops + 1 else e.counters.passDrops } }))) ∧
  (∀ (f : Frame) (s e : State), s.holding = false → f.isForwarded = true → e = endPartial .console s →
    exec (.forwardedFrame f) s = .next (settle
      (if (e.outbound.filter (·.forwarded)).length < 28 ∧ e.outbound.length < 32 then
          { e with outbound := e.outbound ++ [⟨f, true⟩] }
        else { e with counters := { e.counters with outboundDrops :=
          if e.counters.outboundDrops < 65535 then e.counters.outboundDrops + 1 else e.counters.outboundDrops } })))

/-- A console Indicator is discarded and counted where the queue does not accept it; one that is accepted is forwarded, and
every key it matches takes its state: the echo bit, echo-pending clear, and in Latch mode the latched state (R75, R134,
R137). No other element and nothing else changes. It rests on the model's choices of log 1 and log 8. -/
def Obligations.ConsoleIndicatorIsWatched : Prop :=
  (∀ (a : BitVec 6) (n mode : Byte) (s e : State), s.holding = false → a ≠ 63 → n.toNat ≤ 63 → mode.toNat ≤ 3 →
    e = endPartial .console s →
    (28 ≤ e.forwardedCount ∨ 32 ≤ e.outbound.length → exec (.indicator a n mode) s = .next (settle { e with
      counters := { e.counters with outboundDrops :=
        if e.counters.outboundDrops < 65535 then e.counters.outboundDrops + 1 else e.counters.outboundDrops } })) ∧
    (e.forwardedCount < 28 → e.outbound.length < 32 → ∃ t : State, exec (.indicator a n mode) s = .next (settle t) ∧
      e.watched t ⟨⟨5, a, [n, mode]⟩, true⟩ a n.toNat (mode != 0) none)) ∧
  (∀ s : State, s.forwardedCount = (s.outbound.filter (·.forwarded)).length)

/-- A console Pace frame to address 0 is discarded and counted where the queue does not accept it; one that is accepted is
forwarded and watched: the chain pace becomes its pace, pace-owed is cleared, and a change from Brisk to Slow makes every
pace view Slow and restarts the watchdog of each Active module whose view was Brisk with the slow timeout (R32, R139). It
rests on the model's choices of log 1, log 8 and log 14. -/
def Obligations.ConsolePaceIsWatched : Prop :=
  ∀ (p : Byte) (s e : State), s.holding = false → p.toNat ≤ 1 → e = endPartial .console s →
    (28 ≤ e.forwardedCount ∨ 32 ≤ e.outbound.length → exec (.pace p) s = .next (settle { e with
      counters := { e.counters with outboundDrops :=
        if e.counters.outboundDrops < 65535 then e.counters.outboundDrops + 1 else e.counters.outboundDrops } })) ∧
    (e.forwardedCount < 28 → e.outbound.length < 32 → exec (.pace p) s = .next (settle { e with
      outbound := e.outbound ++ [⟨⟨6, 0, [p]⟩, true⟩], paceOwed := false,
      chainPace := if p = 0 then .brisk else .slow,
      modules := if p ≠ 0 ∧ e.chainPace = .brisk then
          Vector.ofFn fun m => { e.module m with
            paceView := .slow,
            watchdog := if (e.module m).paceView = .brisk ∧ (e.module m).state = .active then some e.settings.slowTimeout
              else (e.module m).watchdog }
        else e.modules }))

/-! ## Requests -/

/-- Each row of a request is the Request frame of its code (log 10). A Request joins the queue with the record of whether
one stood ahead, is dropped and counted when 4 stand there, and a Restart that passes its checks is executed at once
whatever stands ahead (R145, R156). One whose code, length or restart form R18, R148 and R156 refuse, whatever row could
have made it, is answered Refused with Bad Request or Bad Argument and changes nothing else; a Write Element too short for
its class byte is judged as log 17 says (DEDUCED). It rests on the model's choices of log 1, log 8 and log 10. -/
def Obligations.RequestJoinsTheQueue : Prop :=
  (∀ (tag a b c d e f : Byte) (x y : Word) (ps : List Byte) (s : State),
    exec (.readStatus tag) s = exec (.request tag 1 []) s ∧ exec (.readSettings tag) s = exec (.request tag 2 []) s ∧
    exec (.writeSettings tag x y a b c) s = exec (.request tag 3 (wordBytes x ++ wordBytes y ++ [a, b, c])) s ∧
    exec (.readModule tag a) s = exec (.request tag 4 [a]) s ∧
    exec (.writeModule tag a b x c) s = exec (.request tag 5 ([a, b] ++ wordBytes x ++ [c])) s ∧
    exec (.readElement tag x) s = exec (.request tag 6 (wordBytes x)) s ∧
    exec (.writeElement tag x a b ps) s = exec (.request tag 7 (wordBytes x ++ [a, b] ++ ps)) s ∧
    exec (.readLane tag a) s = exec (.request tag 8 [a]) s ∧
    exec (.writeLane tag a b c d e f x) s = exec (.request tag 9 ([a, b, c, d, e, f] ++ wordBytes x)) s ∧
    exec (.readProfile tag a) s = exec (.request tag 10 [a]) s ∧
    exec (.writeProfile tag a x y b) s = exec (.request tag 11 ([a] ++ wordBytes x ++ wordBytes y ++ [b])) s ∧
    exec (.readCounters tag a) s = exec (.request tag 12 [a]) s ∧
    exec (.coldRequest tag) s = exec (.request tag 13 [0]) s ∧ exec (.warmRequest tag) s = exec (.request tag 13 [1]) s ∧
    exec (.captureControl tag a b c) s = exec (.request tag 14 [a, b, c]) s ∧
    exec (.captureRead tag a) s = exec (.request tag 15 [a]) s) ∧
  (∀ (tag code : Byte) (args : List Byte) (s e : State), s.holding = false → args.length ≤ 238 →
    e = endPartial .console s →
    (s.requests.length < 4 → ¬ (code = 13 ∧ (args = [0] ∨ args = [1])) →
      exec (.request tag code args) s = .next (settle { e with
        requests := e.requests ++ [⟨tag, code, args, decide (e.requests ≠ [])⟩] })) ∧
    (4 ≤ s.requests.length → exec (.request tag code args) s = .next (settle { e with
      counters := { e.counters with requestDrops :=
        if e.counters.requestDrops < 65535 then e.counters.requestDrops + 1 else e.counters.requestDrops } })) ∧
    (s.requests.length < 4 → code = 13 → args = [0] →
      exec (.request tag code args) s = .next (settle (s.coldStart .coldRequest))) ∧
    (s.requests.length < 4 → code = 13 → args = [1] → 1 ≤ (s.lane 0).entry.quota →
      exec (.request tag code args) s = .next (settle (s.warmStart .warmRequest))) ∧
    (∀ why, s.managementIdle → turnedAway code args why →
      exec (.request tag code args) s = .next (settle (e.replied tag code (.refused why)))))

/-- Read Status answers the twenty-four bytes of its record and changes nothing else (R149). One that waited behind
another request reports Management busy 1 when it reaches the head, and its reply waits where the reply queue is full
(R145 to R147). It rests on the model's choices of log 1, log 8 and log 10. -/
def Obligations.ReadStatusAnswers : Prop :=
  (∀ (tag : Byte) (s e : State), s.managementIdle → e = endPartial .console s →
    exec (.readStatus tag) s = .next (settle (e.replied tag 1 (.done (e.statusData false))))) ∧
  (∀ (tag : Byte) (waited : Bool) (rest : List Request) (s : State), s.holding = false → s.head = .ready →
    s.requests = ⟨tag, 1, [], waited⟩ :: rest →
    (s.replies.length < 4 →
      settle s = settle ({ s with requests := rest }.replied tag 1 (.done (s.statusData waited)))) ∧
    (4 ≤ s.replies.length →
      settle s = settle { s with head := .awaitingSlot ⟨tag, 1, .done (s.statusData waited)⟩ }))

/-- Read and Write Settings (R150) and Read and Write Profile (R154): the fields as sent; a write in range replaces
the whole record, one out of range is refused with Bad Argument and writes none of it. It rests on the model's choices
of log 1, log 8 and log 10. -/
def Obligations.SettingsAndProfilesAreReadAndWritten : Prop :=
  (∀ (tag : Byte) (s e : State), s.managementIdle → e = endPartial .console s →
    exec (.readSettings tag) s = .next (settle (e.replied tag 2 (.done (
      twoBytes e.settings.briskTimeout ++ twoBytes e.settings.slowTimeout ++
        [BitVec.ofNat 8 e.settings.quiet, BitVec.ofNat 8 e.settings.ceiling, BitVec.ofNat 8 e.settings.burst])))) ∧
    ∀ (brisk slow : Word) (quiet ceiling burst : Byte),
      exec (.writeSettings tag brisk slow quiet ceiling burst) s = .next (settle
        (if 10 ≤ brisk.toNat ∧ brisk.toNat ≤ 10000 ∧ 100 ≤ slow.toNat ∧ slow.toNat ≤ 60000 ∧ ceiling.toNat ≤ 7 ∧
            1 ≤ burst.toNat ∧ burst.toNat ≤ 32 then
          { e with settings := ⟨brisk.toNat, slow.toNat, quiet.toNat, ceiling.toNat, burst.toNat⟩ }.replied tag 3 (.done [])
        else e.replied tag 3 (.refused .badArgument)))) ∧
  (∀ (tag p : Byte) (s e : State), s.managementIdle → e = endPartial .console s →
    (∀ k : Fin 8, p.toNat = k.val →
      exec (.readProfile tag p) s = .next (settle (e.replied tag 10 (.done (
        twoBytes e.profiles[k].delay ++ twoBytes e.profiles[k].interval ++ [BitVec.ofNat 8 e.profiles[k].limit])))) ∧
      ∀ (delay interval : Word) (limit : Byte), exec (.writeProfile tag p delay interval limit) s = .next (settle
        (if delay ≠ 0 ∧ interval ≠ 0 then
          { e with profiles := e.profiles.set k ⟨delay.toNat, interval.toNat, limit.toNat⟩ }.replied tag 11 (.done [])
        else e.replied tag 11 (.refused .badArgument)))) ∧
    (7 < p.toNat → exec (.readProfile tag p) s = .next (settle (e.replied tag 10 (.refused .badArgument))) ∧
      ∀ (delay interval : Word) (limit : Byte), exec (.writeProfile tag p delay interval limit) s =
        .next (settle (e.replied tag 11 (.refused .badArgument)))))

/-- Read Lane and Write Lane (R128, R153): a write in range replaces the entry and leaves the lane's notices, timer
and mark; a quota raised above the lane's count starts a service pass (R108, log 26). It rests on the model's choices
of log 1, log 8 and log 10. -/
def Obligations.LanesAreReadAndWritten : Prop :=
  (∀ (tag l : Byte) (s e : State), s.managementIdle → e = endPartial .console s →
    (∀ k : Fin 8, l.toNat = k.val →
      exec (.readLane tag l) s = .next (settle (e.replied tag 8 (.done (
        [BitVec.ofNat 8 (e.lane k).entry.priority, if (e.lane k).entry.masked then 1 else 0,
          if (e.lane k).entry.mode = .held then 1 else 0, if (e.lane k).entry.urgent then 1 else 0,
          BitVec.ofNat 8 (e.lane k).entry.quota] ++ twoBytes (e.lane k).entry.limit)))) ∧
      ∀ (priority masked mode urgent quota : Byte) (limit : Word) (w : State),
        w = e.setLane k { e.lane k with entry :=
          ⟨priority.toNat, masked != 0, if mode = 0 then .plain else .held, urgent != 0, quota.toNat, limit.toNat⟩ } →
        exec (.writeLane tag l priority masked mode urgent quota limit) s = .next (settle
          (if priority.toNat ≤ 7 ∧ mode.toNat ≤ 1 ∧ 1 ≤ quota.toNat ∧ quota.toNat ≤ 128 then
            (if (e.lane k).entry.quota < quota.toNat ∧ (e.lane k).fifo.length < quota.toNat then servicePass w
              else w).replied tag 9 (.done [])
          else e.replied tag 9 (.refused .badArgument)))) ∧
    (7 < l.toNat → exec (.readLane tag l) s = .next (settle (e.replied tag 8 (.refused .badArgument))) ∧
      ∀ (priority masked mode urgent quota : Byte) (limit : Word),
        exec (.writeLane tag l priority masked mode urgent quota limit) s =
          .next (settle (e.replied tag 9 (.refused .badArgument))))) ∧
  ∀ (k : Fin 8) (x : Lane) (s : State), s.lane k = s.lanes[k] ∧ s.setLane k x = { s with lanes := s.lanes.set k x }

/-- Read Module answers the fourteen bytes of the module's record, or Bad Argument for an address of 0 or above 62.
Write Module is refused before anything is written: Bad Argument for an address, base, count or sum out of range, then
Overlap for an enabled range that shares an index with another enabled one; an entry equal to the present one is
answered Done with no effect (R19, R35, R148, R151). The binding (R19, R46): an enabled entry binds the indices from its
base to the count, an index is bound to the module whose entry binds it, the first in address order in a state where two
do (no run has one), and addresses 1 to 62 are modules. It rests on the model's choices of log 1, log 8 and log 10. -/
def Obligations.ModuleRequestsAreChecked : Prop :=
  (∀ (tag a : Byte) (s e : State), s.managementIdle → e = endPartial .console s →
    (∀ m : ModuleIx, a.toNat = m.val + 1 →
      exec (.readModule tag a) s = .next (settle (e.replied tag 4 (.done (
        [if (e.module m).entry.enabled then 1 else 0] ++ twoBytes (e.module m).entry.base ++
          [BitVec.ofNat 8 (e.module m).entry.count, (e.module m).state.code,
            if (e.module m).lastApplied = none then 0 else 1, (e.module m).lastApplied.getD 0] ++
          twoBytes (e.module m).rejected ++ twoBytes (e.module m).gaps ++ twoBytes (e.module m).duplicates ++
          [if (e.module m).paceView = .brisk then 0 else 1]))))) ∧
    (a.toNat = 0 ∨ 62 < a.toNat → exec (.readModule tag a) s = .next (settle (e.replied tag 4 (.refused .badArgument))))) ∧
  (∀ (tag a enabled : Byte) (base : Word) (count : Byte) (s e : State), s.managementIdle → e = endPartial .console s →
    ((a.toNat = 0 ∨ 62 < a.toNat ∨ 1023 < base.toNat ∨ count.toNat = 0 ∨ 64 < count.toNat ∨
        1024 < base.toNat + count.toNat) →
      exec (.writeModule tag a enabled base count) s = .next (settle (e.replied tag 5 (.refused .badArgument)))) ∧
    (∀ m : ModuleIx, a.toNat = m.val + 1 → 1 ≤ count.toNat → count.toNat ≤ 64 → base.toNat + count.toNat ≤ 1024 →
      ((enabled ≠ 0 ∧ ∃ k i, k ≠ m ∧ (e.module k).entry.enabled = true ∧ (e.module k).entry.base ≤ i ∧
          i < (e.module k).entry.base + (e.module k).entry.count ∧ base.toNat ≤ i ∧ i < base.toNat + count.toNat) →
        exec (.writeModule tag a enabled base count) s = .next (settle (e.replied tag 5 (.refused .overlap)))) ∧
      (e.overlaps m ⟨enabled != 0, base.toNat, count.toNat⟩ = false →
        (e.module m).entry = ⟨enabled != 0, base.toNat, count.toNat⟩ →
        exec (.writeModule tag a enabled base count) s = .next (settle (e.replied tag 5 (.done [])))))) ∧
  (∀ (m : ModuleIx) (x : ModuleEntry) (i : Nat) (s : State),
    (1 ≤ x.count → (∀ k, 1 ≤ (s.module k).entry.count) →
      (s.overlaps m x = true ↔ x.enabled = true ∧ ∃ k j, k ≠ m ∧ (s.module k).entry.enabled = true ∧
        (s.module k).entry.base ≤ j ∧ j < (s.module k).entry.base + (s.module k).entry.count ∧
        x.base ≤ j ∧ j < x.base + x.count)) ∧
    (x.binds i = true ↔ x.enabled = true ∧ x.base ≤ i ∧ i < x.base + x.count) ∧
    (s.bound i = some m ↔ (s.module m).entry.binds i = true ∧ ∀ k < m, (s.module k).entry.binds i = false) ∧
    (s.bound i = none ↔ ∀ k, (s.module k).entry.binds i = false) ∧
    s.boundTo m = (if (s.module m).entry.enabled = true then
      (List.range (s.module m).entry.count).map fun n => (s.module m).entry.base + n else []) ∧
    (∀ a : BitVec 6, moduleOf a = some m ↔ a.toNat = m.val + 1) ∧
    (∀ y, s.module m = s.modules[m] ∧ s.setModule m y = { s with modules := s.modules.set m y })) ∧
  ModuleState.unmapped.code = 0 ∧ ModuleState.waiting.code = 1 ∧ ModuleState.active.code = 2 ∧
  ModuleState.silent.code = 3 ∧ ModuleState.draining.code = 4

/-- A Write Module that changes the entry of a module in Unmapped, Waiting or Silent takes effect at once (R36): the
entry is installed, the open sweep and the capture mark are dropped, the last applied sweep is absent, the empty-run
count 0, the module Waiting or Unmapped, the contexts of the old and the new range idle, the counts and the pace view
kept. The outbound queue takes the off frames of R51 while it has room, in the order of logs 18 and 29 (the model's),
then the Resync Request, owed where no entry is free (R30). Every other module, every element outside the two ranges and
everything else is unchanged. It rests on the model's choices of log 1, log 8, log 10 and log 23. -/
def Obligations.WriteModuleTakesEffectAtOnce : Prop :=
  ∀ (tag a enabled : Byte) (base : Word) (count : Byte) (m : ModuleIx) (x : ModuleEntry) (s e : State)
    (o : List OutFrame),
    s.managementIdle → e = endPartial .console s → a.toNat = m.val + 1 → 1 ≤ count.toNat → count.toNat ≤ 64 →
    base.toNat + count.toNat ≤ 1024 → x = ⟨enabled != 0, base.toNat, count.toNat⟩ → e.overlaps m x = false →
    (e.module m).entry ≠ x → (e.module m).state ≠ .active →
    o = e.outbound ++ ((e.lampsOff x [] (e.boundTo m)).take (32 - e.outbound.length)).map (lampFrame m · false) →
    ∃ t : State, exec (.writeModule tag a enabled base count) s = .next (settle (t.replied tag 5 (.done []))) ∧
      t = { e with modules := t.modules, elements := t.elements, outbound := t.outbound } ∧
      t.module m = { e.module m with
        entry := x, sweep := ⟨[], false, 0⟩, mark := .recording, lastApplied := none, emptyRun := 0,
        state := if x.enabled then .waiting else .unmapped,
        resyncOwed := x.enabled && (decide (32 ≤ o.length) || (e.module m).resyncOwed) } ∧
      (∀ k, k ≠ m → t.module k = e.module k) ∧
      (∀ i, (x.binds i = true ∨ (e.module m).entry.binds i = true) →
        t.element i = { e.element i with control := (e.element i).control.toIdle }) ∧
      (∀ i, x.binds i = false → (e.module m).entry.binds i = false → t.element i = e.element i) ∧
      t.outbound = (if x.enabled = true ∧ o.length < 32 then
        o ++ [⟨⟨7, BitVec.ofNat 6 (m.val + 1), []⟩, false⟩] else o)

/-- A Write Module that changes the entry of an Active module begins a flush (R37): the request stays in flight, the
entry is not yet installed, the module is Draining with its watchdog stopped and its open sweep dropped, each element
of the old range is retired, and a service pass follows, ahead of the completion test (log 13, DEDUCED). An element is
retired by its class (R38, R39): a key opens with its repeat ended, gives a Release flagged Removed if it was Closed in
Both mode, loses its stale flag in another mode, and puts out a lit lamp, or owes it where an echo was owed already; an
encoder loses carry, carry-owed flag and sub-position; a level its timer, held value and stale flag. It rests on the
model's choices of log 1, log 8 and log 10. -/
def Obligations.WriteModuleBeginsAFlush : Prop :=
  (∀ (tag a enabled : Byte) (base : Word) (count : Byte) (m : ModuleIx) (x : ModuleEntry) (s e d : State),
    s.managementIdle → e = endPartial .console s → a.toNat = m.val + 1 → 1 ≤ count.toNat → count.toNat ≤ 64 →
    base.toNat + count.toNat ≤ 1024 → x = ⟨enabled != 0, base.toNat, count.toNat⟩ → e.overlaps m x = false →
    (e.module m).entry ≠ x → (e.module m).state = .active →
    d = e.setModule m { e.module m with
      state := .draining, watchdog := none, sweep := ⟨[], false, 0⟩, mark := .recording } →
    exec (.writeModule tag a enabled base count) s = .next (settle {
      servicePass ((d.boundTo m).foldl (fun t i => drainElement i t) d) with
      requests := [⟨tag, 5, [a, enabled] ++ wordBytes base ++ [count], false⟩], head := .flushing m x })) ∧
  (∀ (i : Nat) (s : State),
    (∀ p c o r q w, (s.element i).control = .key p c →
      o = s.setControl i (.key p { c with
        rawClosed := false, closed := false, settle := 0, timer := none, repeatDue := false }) →
      r = (if c.closed = true ∧ p.mode = .both then giveNotice i .release 0 none { removed := true } o else o) →
      q = (if p.mode = .both then r else r.updKey i fun k => { k with stale := false }) →
      w = q.updKey i (fun k => { k with echoBit := false }) →
      ((p.echo = none ∨ c.echoBit = false) → drainElement i s = q) ∧
      (p.echo ≠ none → c.echoBit = true → drainElement i s = if c.echoPending = true then w else requestEcho i w)) ∧
    (∀ p c, (s.element i).control = .encoder p c →
      drainElement i s = s.setControl i (.encoder p { c with carry := 0, carryOwed := false, sub := 0 })) ∧
    (∀ p c, (s.element i).control = .level p c →
      drainElement i s = s.setControl i (.level p { c with timer := none, held := none, stale := false })) ∧
    ((∃ w, (s.element i).control = .raw w) ∨ (s.element i).control = .ignore → drainElement i s = s))

/-- The data of Read Element (R58): the summary of five bytes, the index, the class and the lane, then the parameters.
-/
def Sys2Proof.Machine.elementData (i : Nat) (x : Element) : List Byte :=
  match x.control with
  | .ignore => [0, 0, 0, 0, 0] ++ twoBytes i ++ [0, BitVec.ofNat 8 x.lane.val]
  | .key p c =>
    [if c.closed then 1 else 0, if c.latched then 1 else 0, BitVec.ofNat 8 c.bounce, 0, if c.stale then 1 else 0] ++
      twoBytes i ++ [1, BitVec.ofNat 8 x.lane.val, BitVec.ofNat 8 p.debounceDown, BitVec.ofNat 8 p.debounceUp,
        match p.mode with | .both => 0 | .pressOnly => 1 | .toggle => 2,
        match p.profile with | none => 255 | some k => BitVec.ofNat 8 k.val,
        match p.echo with | none => 255 | some k => BitVec.ofNat 8 k.val,
        match p.echoMode with | .follow => 0 | .latch => 1]
  | .encoder p c =>
    [0, 0, 0, BitVec.ofNat 8 c.skips, if c.carryOwed then 1 else 0] ++ twoBytes i ++
      [2, BitVec.ofNat 8 x.lane.val, match p.resolution with | .fine => 0 | .half => 1 | .coarse => 2,
        if p.invert then 1 else 0, BitVec.ofNat 8 p.limit, BitVec.ofNat 8 p.threshold, BitVec.ofNat 8 p.factor]
  | .level p c =>
    [0, 0, 0, 0, if c.stale then 1 else 0] ++ twoBytes i ++
      [3, BitVec.ofNat 8 x.lane.val, BitVec.ofNat 8 p.deadband] ++ twoBytes p.pace ++ twoBytes p.low ++
      twoBytes p.high ++ [if p.zones then 1 else 0]
  | .raw _ => [0, 0, 0, 0, 0] ++ twoBytes i ++ [4, BitVec.ofNat 8 x.lane.val]

/-- Read Element answers the element's record, or Bad Argument for an index above 1023 (R58). Write Element is refused with
Bad Argument for a class above 4, with Bad Request for a length that is not its class's, and with Bad Argument for a field,
a lane or an index out of range (R52). For an index bound to no Active module (R51, R53) the off frame of the old entry is
requested first, then the entry is written whole with an idle context; nothing else changes. The off frame is that of a key
whose echo bit is 1, to the module it is bound to; it is queued and watched where an entry is free and dropped otherwise.
The idle context of each class (R50), the parameter lengths (R18), and the table itself (R44, log 20): a write is read back
at its index and nowhere else, and an index that is not listed is Ignore on lane 1. It rests on the model's choices of
log 1, log 8 and log 10. -/
def Obligations.ElementIsReadAndWrittenAtRest : Prop :=
  (∀ (tag : Byte) (i : Word) (s e : State), s.managementIdle → e = endPartial .console s →
    (i.toNat < 1024 → exec (.readElement tag i) s =
      .next (settle (e.replied tag 6 (.done (elementData i.toNat (e.element i.toNat)))))) ∧
    (1023 < i.toNat → exec (.readElement tag i) s = .next (settle (e.replied tag 6 (.refused .badArgument))))) ∧
  (∀ (tag cls lane : Byte) (i : Word) (ps : List Byte) (l : Fin 8) (c : Control) (s e : State), s.managementIdle →
    e = endPartial .console s → i.toNat < 1024 → lane.toNat = l.val → controlOf cls.toNat ps = some c →
    (e.bound i.toNat = none → exec (.writeElement tag i cls lane ps) s =
      .next (settle ((e.setElement i.toNat ⟨l, c⟩).replied tag 7 (.done [])))) ∧
    (∀ m, e.bound i.toNat = some m → (e.module m).state ≠ .active → exec (.writeElement tag i cls lane ps) s =
      .next (settle (((offAtReset m i.toNat e).setElement i.toNat ⟨l, c⟩).replied tag 7 (.done []))))) ∧
  (∀ (tag cls lane : Byte) (i : Word) (ps : List Byte) (s e : State), s.managementIdle → e = endPartial .console s →
    ps.length ≤ 234 →
    (4 < cls.toNat → exec (.writeElement tag i cls lane ps) s = .next (settle (e.replied tag 7 (.refused .badArgument)))) ∧
    (∀ n, paramLength cls.toNat = some n → ps.length ≠ n →
      exec (.writeElement tag i cls lane ps) s = .next (settle (e.replied tag 7 (.refused .badRequest)))) ∧
    (paramLength cls.toNat = some ps.length → (1023 < i.toNat ∨ 7 < lane.toNat ∨ controlOf cls.toNat ps = none) →
      exec (.writeElement tag i cls lane ps) s = .next (settle (e.replied tag 7 (.refused .badArgument))))) ∧
  (∀ (m : ModuleIx) (i : Nat) (s : State),
    (∀ p c n, (s.element i).control = .key p c → p.echo = some n → c.echoBit = true → s.outbound.length < 32 →
      s.lampQueued (offAtReset m i s) m n false i) ∧
    ((32 ≤ s.outbound.length ∨ ∀ p c, (s.element i).control = .key p c → p.echo = none ∨ c.echoBit = false) →
      offAtReset m i s = s)) ∧
  (KeyCtx.idle = ⟨false, false, 0, false, 0, none, false, 0, false, false, false⟩ ∧
    EncoderCtx.idle = ⟨0, 0, 0, false, 0⟩ ∧ LevelCtx.idle = ⟨0, none, none, none, .mid, false⟩ ∧
    (∀ p c, (Control.key p c).toIdle = .key p .idle) ∧ (∀ p c, (Control.encoder p c).toIdle = .encoder p .idle) ∧
    (∀ p c, (Control.level p c).toIdle = .level p .idle) ∧ (∀ w, (Control.raw w).toIdle = .raw none) ∧
    Control.ignore.toIdle = .ignore) ∧
  (paramLength 0 = some 0 ∧ paramLength 1 = some 6 ∧ paramLength 2 = some 5 ∧ paramLength 3 = some 8 ∧
    paramLength 4 = some 0 ∧ ∀ n, 4 < n → paramLength n = none) ∧
  (∀ (i : Nat) (s : State),
    (∀ e : Element, s.setElement i e = { s with elements := (s.setElement i e).elements } ∧
      ∀ j, (s.setElement i e).element j = if j = i then e else s.element j) ∧
    (∀ c, s.setControl i c = s.setElement i { s.element i with control := c }) ∧
    (∀ f, (∀ p c, (s.element i).control = .key p c → s.updKey i f = s.setControl i (.key p (f c))) ∧
      ((∀ p c, (s.element i).control ≠ .key p c) → s.updKey i f = s)) ∧
    (∀ f, (∀ p c, (s.element i).control = .level p c → s.updLevel i f = s.setControl i (.level p (f c))) ∧
      ((∀ p c, (s.element i).control ≠ .level p c) → s.updLevel i f = s)) ∧
    (s.tableOk → (∀ e, (i, e) ∈ s.elements → s.element i = e) ∧
      ((∀ e, (i, e) ∉ s.elements) → s.element i = ⟨1, .ignore⟩)))

/-- Write Element for an index bound to an Active module (R54, R57): refused with Module Active when the class or the
lane differs; in place otherwise, an Encoder losing its sub-position when the resolution changes, a Level its zone
when zones are turned off, Raw and Ignore unchanged. A Key entry (R55): a settle count above its new window comes down
to it, a profile of none stops the repeat, and the repeats-sent count is kept. A change of notice mode (R56) to Both
sets the stale flag and makes a service pass, one to Press Only clears it, one to Toggle keeps it. A change of the echo
mode alone acts on the desired state; a change of the echo indicator puts out the old lamp where it is lit or an echo is
owed and an entry is free, clears both echo flags, and then acts; the pass comes after the echo effects (log 31, DESIGN
CHOICE). It rests on the model's choices of log 1, log 8 and log 10. -/
def Obligations.WriteElementUnderActiveModule : Prop :=
  (∀ (tag cls lane : Byte) (i : Word) (ps : List Byte) (l : Fin 8) (c : Control) (m : ModuleIx) (s e : State),
    s.managementIdle → e = endPartial .console s → i.toNat < 1024 → lane.toNat = l.val →
    controlOf cls.toNat ps = some c → e.bound i.toNat = some m → (e.module m).state = .active →
    (((e.element i.toNat).control.classByte ≠ c.classByte ∨ (e.element i.toNat).lane ≠ l) →
      exec (.writeElement tag i cls lane ps) s = .next (settle (e.replied tag 7 (.refused .moduleActive)))) ∧
    ((e.element i.toNat).lane = l →
      (∀ p q x y, (e.element i.toNat).control = .encoder p x → c = .encoder q y →
        exec (.writeElement tag i cls lane ps) s = .next (settle ((e.setControl i.toNat (.encoder q
          { x with sub := if p.resolution = q.resolution then x.sub else 0 })).replied tag 7 (.done [])))) ∧
      (∀ p q x y, (e.element i.toNat).control = .level p x → c = .level q y →
        exec (.writeElement tag i cls lane ps) s = .next (settle ((e.setControl i.toNat (.level q
          { x with zone := if p.zones = true ∧ q.zones = false then .mid else x.zone })).replied tag 7 (.done [])))) ∧
      (∀ p q x y, (e.element i.toNat).control = .key p x → c = .key q y →
        exec (.writeElement tag i cls lane ps) s =
          .next (settle ((writeKeyInPlace i.toNat p q x e).replied tag 7 (.done [])))) ∧
      ((e.element i.toNat).control.classByte = c.classByte → (c.classByte = 0 ∨ c.classByte = 4) →
        exec (.writeElement tag i cls lane ps) s = .next (settle (e.replied tag 7 (.done [])))))) ∧
  (∀ (i : Nat) (p q : KeyParams) (c : KeyCtx) (s u : State), (s.element i).control = .key p c →
    u = s.setControl i (.key q { c with
      settle := if c.closed = false ∧ c.rawClosed = true then min c.settle q.debounceDown
        else if c.closed = true ∧ c.rawClosed = false then min c.settle q.debounceUp else c.settle,
      timer := if q.profile = none then none else c.timer,
      repeatDue := if q.profile = none then false else c.repeatDue,
      stale := if q.mode = p.mode then c.stale else
        match q.mode with | .both => true | .pressOnly => false | .toggle => c.stale }) →
    ∃ v : State, writeKeyInPlace i p q c s = (if q.mode ≠ p.mode ∧ q.mode = .both then servicePass v else v) ∧
      (q.echo = p.echo → q.echoMode = p.echoMode → v = u) ∧
      (q.echo = p.echo → q.echoMode ≠ p.echoMode → v = echoAct i u) ∧
      (q.echo ≠ p.echo → ∃ w : State,
        v = echoAct i (w.updKey i fun k => { k with echoBit := false, echoPending := false }) ∧
        (∀ n m, p.echo = some n → s.bound i = some m → (c.echoBit = true ∨ c.echoPending = true) →
          s.outbound.length < 32 → u.lampQueued w m n false i) ∧
        ((p.echo = none ∨ s.bound i = none ∨ (c.echoBit = false ∧ c.echoPending = false) ∨ 32 ≤ s.outbound.length) →
          w = u)))

/-- What is written is what is read: every parameter part, settings record, profile and lane record in range is parsed
back from the bytes that the reads send, and no parameter part out of range is taken (R17, R18, R45, R52, R58); a yes/no
byte is read as 1 where it is not 0. The layouts (R17): a 16-bit quantity has its high byte first; the parameter part is
what Read Element sends after its nine bytes; the codes of causes and paces; the five bytes of a capture entry, a report
or a sweep, with the code of its outcome. -/
def Obligations.RecordsReadAsWritten : Prop :=
  (∀ (p : KeyParams) (c : KeyCtx), p.debounceDown ≤ 15 → p.debounceUp ≤ 15 →
    controlOf 1 (Control.key p c).paramBytes = some (.key p .idle)) ∧
  (∀ (p : EncoderParams) (c : EncoderCtx), 1 ≤ p.limit → p.limit ≤ 127 → p.threshold ≤ 4 → 2 ≤ p.factor →
    p.factor ≤ 8 → controlOf 2 (Control.encoder p c).paramBytes = some (.encoder p .idle)) ∧
  (∀ (p : LevelParams) (c : LevelCtx), p.deadband ≤ 255 → p.pace ≤ 1000 → p.low ≤ p.high → p.high ≤ 1023 →
    controlOf 3 (Control.level p c).paramBytes = some (.level p .idle)) ∧
  controlOf 0 Control.ignore.paramBytes = some .ignore ∧
  (∀ w : Option Word, controlOf 4 (Control.raw w).paramBytes = some (.raw none)) ∧
  (∀ (b w : Word) (q c n : Byte) (x : Settings), settingsOf b w q c n = some x →
    x.bytes = wordBytes b ++ wordBytes w ++ [q, c, n]) ∧
  (∀ (d v : Word) (n : Byte) (x : Profile), profileOf d v n = some x → x.bytes = wordBytes d ++ wordBytes v ++ [n]) ∧
  (∀ (p k o u q : Byte) (t : Word) (x : LaneEntry), laneEntryOf p k o u q t = some x →
    x.bytes = [p, if k = 0 then 0 else 1, o, if u = 0 then 0 else 1, q] ++ wordBytes t) ∧
  (∀ w : Word, wordBytes w = twoBytes w.toNat) ∧
  (∀ (n : Nat) (ps : List Byte) (c : Control), controlOf n ps = some c → c.inRange ∧ c.toIdle = c ∧
    c.classByte.toNat = n ∧ c.paramBytes.length = ps.length ∧ ∀ k, (n = 2 ∧ k = 1 ∨ n = 3 ∧ k = 7) ∨
      c.paramBytes[k]? = ps[k]?) ∧
  (∀ r i l t f : Byte, i ≠ 0 → controlOf 2 [r, i, l, t, f] = controlOf 2 [r, 1, l, t, f]) ∧
  (∀ d p q l k h j z : Byte, z ≠ 0 → controlOf 3 [d, p, q, l, k, h, j, z] = controlOf 3 [d, p, q, l, k, h, j, 1]) ∧
  (∀ (i : Nat) (x : Element), (elementData i x).drop 9 = x.control.paramBytes ∧
    (elementData i x)[7]? = some x.control.classByte) ∧
  (Cause.powerOn.code = 1 ∧ Cause.coldRequest.code = 2 ∧ Cause.warmRequest.code = 3 ∧ Cause.linkBreak.code = 4 ∧
    Pace.brisk.byte = 0 ∧ Pace.slow.byte = 1) ∧
  (∀ (m : ModuleIx) (x : Byte) (v : Word) (o : SweepOutcome),
    (CaptureEntry.report m x v).bytes = [0, BitVec.ofNat 8 (m.val + 1), x] ++ twoBytes v.toNat ∧
    (CaptureEntry.sweep m x o).bytes = [1, BitVec.ofNat 8 (m.val + 1), x, o.code, 0]) ∧
  SweepOutcome.applied.code = 0 ∧ SweepOutcome.gap.code = 1 ∧ SweepOutcome.duplicate.code = 2 ∧
  SweepOutcome.broken.code = 3 ∧ SweepOutcome.count.code = 4 ∧ SweepOutcome.waiting.code = 5 ∧
  SweepOutcome.draining.code = 6 ∧ SweepOutcome.joined.code = 7

/-- Read Counters answers the seventeen counters in their order and, with the clear flag, sets each of them to 0 in
the same event; no other count is cleared (R155). It rests on the model's choices of log 1, log 8 and log 10. -/
def Obligations.CountersAreReadAndCleared : Prop :=
  ∀ (tag clear : Byte) (s e : State) (data : List Byte), s.managementIdle → e = endPartial .console s →
    data = twoBytes e.counters.surfaceErrors ++ twoBytes e.counters.consoleErrors ++ twoBytes e.counters.misaddressed ++
      twoBytes e.counters.rangeErrors ++ twoBytes e.counters.discarded ++ twoBytes e.counters.passDrops ++
      twoBytes e.counters.outboundDrops ++ twoBytes e.counters.requestDrops ++ twoBytes e.capture.dropped ++
      ((List.finRange 8).map fun l => twoBytes (e.lane l).overflow).flatten →
    (clear = 0 → exec (.readCounters tag clear) s = .next (settle (e.replied tag 12 (.done data)))) ∧
    (clear ≠ 0 → exec (.readCounters tag clear) s = .next (settle ({ e with
      counters := ⟨0, 0, 0, 0, 0, 0, 0, 0⟩, capture := { e.capture with dropped := 0 },
      lanes := Vector.ofFn fun l => { e.lane l with overflow := 0 } }.replied tag 12 (.done data))))

/-! ## Restarts -/

/-- A Cold request is carried out at once, without a reply (R156 to R158): the state is that of a cold restart, and
with pause-in deasserted the Restarted notice, cause 2, is in flight; with pause-in asserted it waits on lane 0. A
Warm request too (R144), with the tables kept. It rests on the model's choices of log 1, log 8 and log 10. -/
def Obligations.RestartRequestsAreCarriedOut : Prop :=
  (∀ (tag : Byte) (s : State), s.holding = false → s.requests.length < 4 →
    exec (.coldRequest tag) s = .next (settle (s.coldStart .coldRequest)) ∧
    (s.pauseIn = true → settle (s.coldStart .coldRequest) = s.coldStart .coldRequest) ∧
    (s.pauseIn = false → settle (s.coldStart .coldRequest) = { s.coldStart .coldRequest with
      lanes := State.blank.lanes, consoleTx := some (.notice ⟨.restarted, 0, 0, 0, 2, none, {}, none⟩) })) ∧
  (∀ (tag : Byte) (s : State), s.holding = false → s.requests.length < 4 → 1 ≤ (s.lane 0).entry.quota →
    exec (.warmRequest tag) s = .next (settle (s.warmStart .warmRequest)))

/-- A detected link break leaves a warm restart's reset values, with both lines held and the detector Broken; its end
completes the restart with cause Link Break (R14 to R16). The power-on reset input begins a cold restart and holds the
lines; its release completes it with cause Power-on (R158, R159). In a break the surface transmit line rests at spacing;
under the reset input, and on the console side always, a transmit line rests at marking (R2, R15, R158). That LINK_BREAK
is detected from Clear too, and that LINK_BREAK_END and RETURN_TO_MARKING are one event, is the model's (log 7, DEDUCED);
that a break while held and a release without a reset change nothing is its choice (log 5). It rests on the model's
choices of log 1. -/
def Obligations.HeldRestartsCompleteOnRelease : Prop :=
  (∀ (s b : State), s.holding = false → b = { s.warmReset with detector := .broken, consoleRx := .spacing } →
    exec .linkBreak s = .next b ∧
    (1 ≤ (s.lane 0).entry.quota →
      exec .linkBreakEnd b = .next (settle { s.warmStart .linkBreak with consoleRx := .marking }) ∧
      exec .returnToMarking b = .next (settle { s.warmStart .linkBreak with consoleRx := .marking })) ∧
    b.surfaceTxRest = .spacing ∧ b.consoleTxRest = .marking ∧ s.surfaceTxRest = .marking ∧ s.consoleTxRest = .marking) ∧
  (∀ (s r : State), r = { State.blank with
      pauseIn := s.pauseIn, consoleRx := s.consoleRx, powerReset := true, resetCause := s.resetCause,
      pending := s.pending } →
    exec .powerOnReset s = .next r ∧ r.surfaceTxRest = .marking ∧ r.consoleTxRest = .marking ∧ (s.holding = true → exec .linkBreak s = .next s) ∧
    (s.powerReset = false → exec .powerOnResetRelease s = .next s) ∧
    exec .powerOnResetRelease r = .next (settle (s.coldStart .powerOn)) ∧
    (s.pauseIn = false → s.consoleRx = .marking → s.pending = [] → settle (s.coldStart .powerOn) = State.reset))

/-! ## The timebase and the lines -/

/-- A tick takes one tick from every running timer once the expiries due are taken (R1, log 3), and the break detector
follows the line (R14): to Spacing Seen on the first tick at spacing, to a detected break on the second, back to Clear at
marking, which comes before the tick (log 6). Under the reset input no timer counts and the detector stays (R158). That
LINK_BREAK_END is RETURN_TO_MARKING in every state is log 7 (DEDUCED). The return that ends a break settles (log 1). The
expiries due are taken as their commands would be, one after another, watchdogs by address, then repeat timers and pace
timers by index, then service timers by lane (log 3, DESIGN CHOICE); that the timers count before a break is detected is
log 30 (DESIGN CHOICE). -/
def Obligations.TickCountsAndWatchesTheLine : Prop :=
  (∀ s d : State, s.powerReset = false → d = takeDue s →
    (s.noneDue → d = s) ∧
    (∃ r, exec .returnToMarking s = .next r ∧ exec (.tick .marking) s = .next (takeDue r).ticked) ∧
    (d.detector = .clear →
      exec (.tick .spacing) s = .next { d.ticked with consoleRx := .spacing, detector := .spacingSeen }) ∧
    (d.detector = .spacingSeen →
      exec (.tick .spacing) s = .next { d.warmReset with detector := .broken, consoleRx := .spacing }) ∧
    (d.detector = .broken → exec (.tick .spacing) s = .next { d.ticked with consoleRx := .spacing })) ∧
  (∀ s : State,
    (s.detector = .clear → exec .returnToMarking s = .next { s with consoleRx := .marking }) ∧
    (s.detector = .spacingSeen → exec .returnToMarking s = .next { s with consoleRx := .marking, detector := .clear }) ∧
    exec .linkBreakEnd s = exec .returnToMarking s ∧
    (s.powerReset = true → exec (.tick .marking) s = exec .returnToMarking s ∧
      exec (.tick .spacing) s = .next { s with consoleRx := .spacing }) ∧
    takeDue s = s.dueExpiries.foldl State.afterCommand s) ∧
  (∀ c : Control, c.repeatTimer = (match c with | .key _ k => k.timer | _ => none) ∧
    c.paceTimer = (match c with | .level _ k => k.timer | _ => none))

/-- Asserting pause-in changes nothing else; deasserting it makes a fresh selection (R12, R119). A selection is made
while the console serializer is Idle and pause-in is deasserted, and at no other time; one that finds no frame changes
nothing. It rests on the model's choices of log 1 and log 5. -/
def Obligations.SelectionsAreMade : Prop :=
  ∀ s : State, exec .pauseInAssert s = .next { s with pauseIn := true } ∧
    exec .pauseInDeassert s = .next (settle { s with pauseIn := false }) ∧
    (s.holding = false → exec .consoleSelection s = .next (settle ((selectStep s).getD s))) ∧
    (s.pauseIn = true ∨ s.consoleTx ≠ none → selectStep s = none)

/-! ## Reports and sweeps -/

/-- Report entries of a module in Waiting or Active are taken one at a time in payload order; those of a module in Silent
or Draining change nothing (R22, R24). An entry (R22, R23): the received count rises first; an element number out of range
counts a range error; a broken sweep takes nothing; a held number has its value replaced in place; a new one takes a free
slot at the end; what is stored is offered to the capture ring; with no free slot the sweep breaks and releases its slots.
It rests on the model's choices of log 1 and log 8. -/
def Obligations.ReportsReachTheOpenSweep : Prop :=
  (∀ (a : BitVec 6) (es : List ReportEntry) (m : ModuleIx) (s e : State), s.holding = false → moduleOf a = some m →
    (s.module m).entry.enabled = true → 1 ≤ es.length → es.length ≤ 80 → e = endPartial .surface s →
    ((s.module m).state = .waiting ∨ (s.module m).state = .active → exec (.elementReport a es) s =
      .next (settle (es.foldl (fun t r => takeEntry m r t) e))) ∧
    ((s.module m).state = .silent ∨ (s.module m).state = .draining → exec (.elementReport a es) s = .next (settle e))) ∧
  (∀ (m : ModuleIx) (r : ReportEntry) (s : State) (x : Module) (received : Nat), x = s.module m →
    received = (if x.sweep.received < 256 then x.sweep.received + 1 else x.sweep.received) →
    (x.entry.count ≤ r.element.toNat →
      takeEntry m r s = { s.setModule m { x with sweep := { x.sweep with received := received } } with
        counters := { s.counters with rangeErrors :=
          if s.counters.rangeErrors < 65535 then s.counters.rangeErrors + 1 else s.counters.rangeErrors } }) ∧
    (r.element.toNat < x.entry.count → x.sweep.broken = true →
      takeEntry m r s = s.setModule m { x with sweep := { x.sweep with received := received } }) ∧
    (r.element.toNat < x.entry.count → x.sweep.broken = false → (∃ y ∈ x.sweep.slots, y.element = r.element.toNat) →
      takeEntry m r s = captureReport m r.element r.value (s.setModule m { x with
        sweep := ⟨x.sweep.slots.map fun y => if y.element = r.element.toNat then ⟨y.element, r.value⟩ else y,
          x.sweep.broken, received⟩ })) ∧
    (r.element.toNat < x.entry.count → x.sweep.broken = false → (∀ y ∈ x.sweep.slots, y.element ≠ r.element.toNat) →
      takeEntry m r s = if s.slotsUsed < 256 then captureReport m r.element r.value (s.setModule m { x with
          sweep := ⟨x.sweep.slots ++ [⟨r.element.toNat, r.value⟩], x.sweep.broken, received⟩ })
        else s.setModule m { x with sweep := ⟨[], true, received⟩ })) ∧
  (∀ s : State, s.slotsUsed = ((List.finRange 62).map fun m => (s.module m).sweep.slots.length).sum)

/-- A Sweep End in Active that is a Duplicate, Broken or a Count mismatch discards the open sweep, counts it, restarts the
watchdog by the pace view and hands the outcome to the capture ring (R25, R31, R32); nothing else changes. It rests on the
model's choices of log 1 and log 8. -/
def Obligations.RejectedSweepIsDiscarded : Prop :=
  (∀ (a : BitVec 6) (number count flags : Byte) (m : ModuleIx) (s e : State) (x : Module) (view : Pace) (o : SweepOutcome),
    s.holding = false → moduleOf a = some m → x = s.module m → x.entry.enabled = true → x.state = .active →
    e = endPartial .surface s → view = (if s.chainPace = .brisk then .brisk else x.paceView) →
    (x.lastApplied = some number ∧ o = .duplicate ∨
      x.lastApplied ≠ some number ∧ x.sweep.broken = true ∧ o = .broken ∨
      x.lastApplied ≠ some number ∧ x.sweep.broken = false ∧ count.toNat ≠ x.sweep.received ∧ o = .count) →
    exec (.sweepEnd a number count flags) s = .next (settle (captureSweep m number o (e.setModule m { x with
      sweep := ⟨[], false, 0⟩, paceView := view,
      watchdog := some (if view = .brisk then s.settings.briskTimeout else s.settings.slowTimeout),
      duplicates := if o = .duplicate then bump 65535 x.duplicates else x.duplicates,
      rejected := if o = .duplicate then x.rejected else bump 65535 x.rejected })))) ∧
  ∀ top n, bump top n = if n < top then n + 1 else n

/-- A Sweep End in Active that is neither applies the sweep (R25, R26): the slots in order, the debounce advance in
element order, then the empty-run count, the last applied sweep and the released slots, then the merger is told; a
number that is not the last plus one counts a gap; the watchdog restarts. A slot's value reaches its element by class
(R47, R49, R97): out of range for a Key (above 1), an Encoder (above 255) or a Level (above 1023) it only counts a range
error; a Raw element gives a Raw notice where the value differs from the last; an Ignore element does nothing. It rests
on the model's choices of log 1 and log 8. -/
def Obligations.AcceptedSweepIsApplied : Prop :=
  (∀ (a : BitVec 6) (number count flags : Byte) (m : ModuleIx) (s e v d : State) (o : SweepOutcome),
    s.holding = false → moduleOf a = some m → (s.module m).entry.enabled = true → (s.module m).state = .active →
    (s.module m).lastApplied ≠ some number → (s.module m).sweep.broken = false →
    count.toNat = (s.module m).sweep.received → e = endPartial .surface s →
    o = (if (s.module m).lastApplied = some (number - 1) then .applied else .gap) →
    v = e.setModule m { e.module m with
      paceView := if s.chainPace = .brisk then .brisk else (s.module m).paceView } →
    d = (((s.module m).sweep.slots.foldl (fun t x => reportValue ((s.module m).entry.base + x.element) x.value t) v).boundTo
      m).foldl (fun t i => debounce i t)
      ((s.module m).sweep.slots.foldl (fun t x => reportValue ((s.module m).entry.base + x.element) x.value t) v) →
    ∃ w : State, w = toldApplied (decide ((s.module m).sweep.slots ≠ [])) (d.setModule m { d.module m with
        emptyRun := if (s.module m).sweep.slots = [] then bump 255 (d.module m).emptyRun else 0,
        lastApplied := some number, sweep := ⟨[], false, 0⟩ }) ∧
      exec (.sweepEnd a number count flags) s = .next (settle (captureSweep m number o (startWatchdog m
        (if o = .gap then w.setModule m { w.module m with gaps := bump 65535 (w.module m).gaps } else w))))) ∧
  (∀ (i : Nat) (v : Word) (s : State),
    (∀ p c, (s.element i).control = .key p c →
      (v.toNat ≤ 1 → reportValue i v s = keyReport i (v == 1) s) ∧ (1 < v.toNat → reportValue i v s = s.rangeCounted)) ∧
    (∀ p c, (s.element i).control = .encoder p c →
      (v.toNat ≤ 255 → reportValue i v s = encoderReport i v s) ∧
      (255 < v.toNat → reportValue i v s = s.rangeCounted)) ∧
    (∀ p c, (s.element i).control = .level p c →
      (v.toNat ≤ 1023 → reportValue i v s = levelReport i v.toNat s) ∧
      (1023 < v.toNat → reportValue i v s = s.rangeCounted)) ∧
    (∀ w, (s.element i).control = .raw w →
      (w = some v → reportValue i v s = s) ∧
      (w ≠ some v →
        reportValue i v s = giveNotice i .raw v.toNat none {} (s.setControl i (.raw (some v))))) ∧
    ((s.element i).control = .ignore → reportValue i v s = s)) ∧
  (∀ (m : ModuleIx) (s : State), startWatchdog m s = s.setModule m { s.module m with
    watchdog := some (if (s.module m).paceView = .brisk then s.settings.briskTimeout else s.settings.slowTimeout) })

/-- A Sweep End in Waiting that makes no complete Full sweep, one in Silent and one in Draining (R27, R29): counted as
rejected and handed to the capture ring; in Waiting the open sweep is discarded, from Waiting and Silent the module is
Waiting with a Resync Request requested, and a Draining module stays Draining. It rests on the model's choices of log 1 and
log 8. -/
def Obligations.SweepEndOutsideActiveIsRejected : Prop :=
  ∀ (a : BitVec 6) (number count flags : Byte) (m : ModuleIx) (s e c : State) (x y : Module), s.holding = false →
    moduleOf a = some m → x = s.module m → x.entry.enabled = true → e = endPartial .surface s →
    y = { x with
      paceView := if s.chainPace = .brisk then .brisk else x.paceView, rejected := bump 65535 x.rejected } →
    (x.state = .waiting → (flags.getLsbD 0 = false ∨ x.sweep.broken = true ∨ count.toNat ≠ x.sweep.received ∨
        ∃ n < x.entry.count, ∀ z ∈ x.sweep.slots, z.element ≠ n) →
      exec (.sweepEnd a number count flags) s = .next (settle
        (requestResync m (captureSweep m number .waiting (e.setModule m { y with sweep := ⟨[], false, 0⟩ }))))) ∧
    (x.state = .silent → c = captureSweep m number .waiting (e.setModule m y) →
      exec (.sweepEnd a number count flags) s =
        .next (settle (requestResync m (c.setModule m { c.module m with state := .waiting })))) ∧
    (x.state = .draining → exec (.sweepEnd a number count flags) s =
      .next (settle (captureSweep m number .draining (e.setModule m y))))

/-- A complete Full sweep in Waiting makes the module join (R27, R28): Active, with the sweep's number, the watchdog
started, Module Joined queued before the baselines, every element baselined in element-number order with its slot's
value, the slots released, and the merger told. The baseline by class (R48, R76, R85, R95, R97): a key takes the value
as its state, gives a Toggle in Toggle mode and a Press where it is Closed in another, brings its echo up to date and
asks for its frame unless one is owed, and starts its repeat if Closed; an encoder takes its phase; a level takes value,
zone and last given value, and brings its untaken Level up to date (log 16) or gives one (log 25); a Raw element gives
its value. A value out of range counts a range error and leaves a key Open and an encoder without sub-position. It rests
on the model's choices of log 1 and log 8. -/
def Obligations.FullSweepJoinsTheModule : Prop :=
  (∀ (a : BitVec 6) (number count flags : Byte) (m : ModuleIx) (s e : State) (x : Module) (view : Pace),
    s.holding = false → moduleOf a = some m → x = s.module m → x.entry.enabled = true → x.state = .waiting →
    flags.getLsbD 0 = true → x.sweep.broken = false → count.toNat = x.sweep.received →
    (∀ n < x.entry.count, ∃ z ∈ x.sweep.slots, z.element = n) → e = endPartial .surface s →
    view = (if s.chainPace = .brisk then .brisk else x.paceView) →
    ∃ j b : State, j = notify ⟨.moduleJoined, 0, m.val + 1, 0, x.entry.count, none, {}, none⟩ (e.setModule m { x with
        state := .active, paceView := view, lastApplied := some number, emptyRun := 0, resyncOwed := false,
        watchdog := some (if view = .brisk then s.settings.briskTimeout else s.settings.slowTimeout) }) ∧
      b = (List.range x.entry.count).foldl
        (fun t n => baseline (x.entry.base + n) (((x.sweep.slots.find? fun z => z.element == n).map (·.value)).getD 0) t) j ∧
      exec (.sweepEnd a number count flags) s = .next (settle (captureSweep m number .joined (toldJoined
        (b.setModule m { b.module m with sweep := ⟨[], false, 0⟩ }))))) ∧
  (∀ (i : Nat) (v : Word) (s : State),
    (∀ p c, (s.element i).control = .key p c →
      (1 < v.toNat → baseline i v s =
        (s.setControl i (.key p { c with rawClosed := false, closed := false, settle := 0 })).rangeCounted) ∧
      (∀ x k g h, (v = 0 ∧ x = false ∨ v = 1 ∧ x = true) →
        k = s.setControl i (.key p { c with
          rawClosed := x, closed := x, settle := 0, timer := none, repeatDue := false, sent := 0 }) →
        g = (if p.mode = .toggle then giveNotice i .toggle (if c.latched then 1 else 0) none { baseline := true } k
          else if x = true then giveNotice i .press 0 none { baseline := true } k else k) →
        h = (if p.echo = none then g
          else if c.echoPending = true then
            g.updKey i fun y => { y with echoBit := if p.echoMode = .follow then x else c.latched }
          else requestEcho i
            (g.updKey i fun y => { y with echoBit := if p.echoMode = .follow then x else c.latched })) →
        baseline i v s = if x = true then startRepeat i h else h)) ∧
    (∀ p c, (s.element i).control = .encoder p c →
      (v.toNat ≤ 255 →
        baseline i v s = s.setControl i (.encoder p { c with phase := v.extractLsb' 0 2, sub := 0 })) ∧
      (255 < v.toNat → baseline i v s = (s.setControl i (.encoder p { c with sub := 0 })).rangeCounted)) ∧
    (∀ p c, (s.element i).control = .level p c →
      (∀ m z k, v.toNat ≤ 1023 → s.bound i = some m →
        z = (if p.zones = false then .mid else if v.toNat < p.low then .low else if p.high < v.toNat then .high
          else .mid) →
        k = s.setControl i (.level p { c with raw := v.toNat, zone := z, lastGiven := some v.toNat, held := none }) →
        ((∀ l, ∀ n ∈ (s.lane l).fifo, ¬ (n.index = some i ∧ n.kind = .level)) →
          baseline i v s = giveNotice i .level v.toNat (some z) { baseline := true } k) ∧
        (∀ y, (∃ l, ∃ n ∈ (s.lane l).fifo, n.index = some i ∧ n.kind = .level) →
          y = (if s.hasUntaken (s.isFor i .level) = true then s.isFor i .level
            else fun n => decide (n.index = some i ∧ n.kind = .level)) →
          baseline i v s = amend y (fun n => { n with
            value := v.toNat, zone := some z, module := m.val + 1, element := i - (s.module m).entry.base,
            flags := { baseline := true } }) k)) ∧
      (1023 < v.toNat → baseline i v s = s.rangeCounted)) ∧
    (∀ w, (s.element i).control = .raw w →
      baseline i v s = giveNotice i .raw v.toNat none { baseline := true } (s.setControl i (.raw (some v)))) ∧
    ((s.element i).control = .ignore → baseline i v s = s))

/-! ## Expiries -/

/-- The watchdog of an Active module, due, expires (R33, R34): Silent, the open sweep discarded, Module Lost queued
ahead of the loss handling of the module's elements in index order. One that is not due does nothing (log 4). Loss
handling of one element (R34, R77, R86, R96): a key opens with its repeat ended, and gives a Release flagged Lost if
it was Closed in Both mode; a level's timer stops and its held value is dropped; an encoder's sub-position is 0. It
rests on the model's choices of log 1 and log 4. -/
def Obligations.WatchdogExpiryLosesTheModule : Prop :=
  (∀ (a : BitVec 6) (m : ModuleIx) (s : State), moduleOf a = some m →
    ((s.module m).state = .active → (s.module m).watchdog = some 0 → exec (.watchdogExpiry a) s =
      .next (settle ((s.boundTo m).foldl (fun t i => loseElement i t)
        (notify ⟨.moduleLost, 0, m.val + 1, 0, 0, none, {}, none⟩ (s.setModule m { s.module m with
          state := .silent, watchdog := none, sweep := ⟨[], false, 0⟩, mark := .recording }))))) ∧
    ((s.module m).watchdog ≠ some 0 → exec (.watchdogExpiry a) s = .next s)) ∧
  (∀ (i : Nat) (s : State),
    (∀ p c o, (s.element i).control = .key p c →
      o = s.setControl i (.key p { c with
        rawClosed := false, closed := false, settle := 0, timer := none, repeatDue := false }) →
      loseElement i s = if c.closed = true ∧ p.mode = .both then giveNotice i .release 0 none { lost := true } o else o) ∧
    (∀ p c, (s.element i).control = .level p c →
      loseElement i s = s.setControl i (.level p { c with timer := none, held := none })) ∧
    (∀ p c, (s.element i).control = .encoder p c →
      loseElement i s = s.setControl i (.encoder p { c with sub := 0 })) ∧
    ((∃ w, (s.element i).control = .raw w) ∨ (s.element i).control = .ignore → loseElement i s = s))

/-- A key's repeat timer, due, expires (R69, R70): a Closed key counts and gives a Repeat and restarts with the
interval of its profile, or stops at the limit; an Opening key defers it. A level element's pace timer, due, expires
(R92): with nothing held it stops; a held value is brought into the untaken Level or given, and the timer restarts with
a pace above 0. One that is not due does nothing (log 4). It rests on the model's choices of log 1 and log 4. -/
def Obligations.ElementTimersExpire : Prop :=
  (∀ (i : Nat) (s : State),
    (∀ p c pr n, (s.element i).control = .key p c → c.timer = some 0 → c.closed = true → c.rawClosed = true →
      p.profile = some pr → n = (if c.sent < 255 then c.sent + 1 else c.sent) →
      exec (.repeatTimerExpiry i) s = .next (settle ((giveNotice i .repeat_ n none {}
        (s.setControl i (.key p { c with sent := n, repeatDue := false }))).updKey i fun k => { k with
          timer := if s.profiles[pr].limit ≠ 0 ∧ s.profiles[pr].limit ≤ n then none else some s.profiles[pr].interval }))) ∧
    (∀ p c, (s.element i).control = .key p c → c.timer = some 0 → c.closed = true → c.rawClosed = false →
      exec (.repeatTimerExpiry i) s =
        .next (settle (s.setControl i (.key p { c with repeatDue := true, timer := none })))) ∧
    ((s.element i).control.repeatTimer ≠ some 0 → exec (.repeatTimerExpiry i) s = .next s)) ∧
  (∀ (i : Nat) (s : State),
    (∀ p c, (s.element i).control = .level p c → c.timer = some 0 →
      (c.held = none → exec (.paceTimerExpiry i) s =
        .next (settle (s.setControl i (.level p { c with timer := none })))) ∧
      (∀ h, c.held = some h → s.hasUntaken (s.isFor i .level) = true → exec (.paceTimerExpiry i) s = .next (settle
        ((replaceLevel i h c.zone (s.setControl i (.level p { c with held := none }))).updLevel i fun x => { x with
          timer := if 0 < p.pace then some p.pace else none }))) ∧
      (∀ h m, c.held = some h → s.bound i = some m → s.hasUntaken (s.isFor i .level) = false →
        s.room (s.element i).lane = true →
        exec (.paceTimerExpiry i) s = .next (settle (State.setControl
          (State.pushNotice ⟨.level, (s.element i).lane, m.val + 1, i - (s.module m).entry.base, h, some c.zone, {},
            some i⟩ (s.setControl i (.level p { c with held := none }))) i
          (.level p { c with
            held := none, lastGiven := some h, timer := if 0 < p.pace then some p.pace else none })))) ∧
      (∀ h m, c.held = some h → s.bound i = some m → s.hasUntaken (s.isFor i .level) = false →
        s.room (s.element i).lane = false →
        exec (.paceTimerExpiry i) s = .next (settle (State.setControl (s.countOverflow (s.element i).lane) i
          (.level p { c with held := none, stale := true, timer := none }))))) ∧
    ((s.element i).control.paceTimer ≠ some 0 → exec (.paceTimerExpiry i) s = .next s))

/-- A lane's service timer, due, expires (R124): the lane leaves the in-service stack, its mark is set and its timer
stopped, and a Service Overdue notice is queued on lane 0 or lost. One that is not due does nothing. It rests on the
model's choices of log 1 and log 4. -/
def Obligations.ServiceTimerExpires : Prop :=
  ∀ (l : Fin 8) (s : State),
    ((s.lane l).timer = some 0 → exec (.serviceTimerExpiry l) s =
      .next (settle (notify ⟨.serviceOverdue, 0, 0, l.val, 0, none, {}, none⟩
        (State.setLane { s with stack := s.stack.filter (· ≠ l) } l { s.lane l with timer := none, overdue := true })))) ∧
    ((s.lane l).timer ≠ some 0 → exec (.serviceTimerExpiry l) s = .next s)

/-! ## Keys, encoders and levels -/

/-- The moves of a key on a valid report (R60): the same value changes nothing; Open and Closed load the window of the
change; Closing and Opening abandon the settling and count a bounce, and a repeat deferred while Opening is given. The
debounce advance (R61, R63, R64): an element of another class is left as it is; Open and Closed stay; a settle count above 0 falls by one; at 0 a press flips the latched
state and gives the notice of the mode, then the echo, then the repeat timer; a release ends the repeat, gives a Release in
Both mode, and acts on the echo in Follow mode. The echo acts (R73, R74) where the desired state, accepted or latched by
its mode, differs from the echo bit: the bit takes it, and unless a frame is owed one is queued and watched, or owed where
no entry is free. The repeat (R69, R70): the start loads the profile's delay; each Repeat counts, and reloads the interval
or stops at the limit. -/
def Obligations.KeyFollowsItsStates : Prop :=
  (∀ (i : Nat) (v : Bool) (s : State) (p : KeyParams) (c : KeyCtx), (s.element i).control = .key p c →
    (c.rawClosed = v → keyReport i v s = s) ∧
    (c.rawClosed ≠ v → c.closed ≠ v → keyReport i v s = s.setControl i (.key p { c with
      rawClosed := v, settle := if v = true then p.debounceDown else p.debounceUp })) ∧
    (∀ b, c.rawClosed ≠ v → c.closed = v →
      b = s.setControl i (.key p { c with
        rawClosed := v, settle := 0, bounce := if c.bounce < 255 then c.bounce + 1 else c.bounce }) →
      keyReport i v s = if v = true ∧ c.repeatDue = true then giveRepeat i b else b)) ∧
  (∀ (i : Nat) (s : State), (∀ p c, (s.element i).control ≠ .key p c) → debounce i s = s) ∧
  (∀ (i : Nat) (s : State) (p : KeyParams) (c : KeyCtx), (s.element i).control = .key p c →
    (c.rawClosed = c.closed → debounce i s = s) ∧
    (c.rawClosed ≠ c.closed → 0 < c.settle →
      debounce i s = s.setControl i (.key p { c with settle := c.settle - 1 })) ∧
    (c.rawClosed = true → c.closed = false → c.settle = 0 →
      debounce i s = startRepeat i (echoAct i (giveNotice i (if p.mode = .toggle then .toggle else .press)
        (if p.mode = .toggle ∧ c.latched = false then 1 else 0) none {}
        (s.setControl i (.key p { c with closed := true, settle := 0, latched := !c.latched }))))) ∧
    (∀ o r, c.rawClosed = false → c.closed = true → c.settle = 0 →
      o = s.setControl i (.key p { c with closed := false, settle := 0, timer := none, repeatDue := false }) →
      r = (if p.mode = .both then giveNotice i .release 0 none {} o else o) →
      debounce i s = if p.echoMode = .follow then echoAct i r else r)) ∧
  (∀ (i : Nat) (s : State) (p : KeyParams) (c : KeyCtx), (s.element i).control = .key p c →
    (∀ d u, d = (if p.echoMode = .follow then c.closed else c.latched) →
      u = s.setControl i (.key p { c with echoBit := d }) →
      (p.echo = none ∨ d = c.echoBit → echoAct i s = s) ∧
      (p.echo ≠ none → d ≠ c.echoBit → echoAct i s = if c.echoPending = true then u else requestEcho i u)) ∧
    (∀ n m, p.echo = some n → s.bound i = some m →
      (s.outbound.length < 32 → s.lampQueued (requestEcho i s) m n c.echoBit i) ∧
      (32 ≤ s.outbound.length → requestEcho i s = s.setControl i (.key p { c with echoPending := true }))) ∧
    (p.profile = none → startRepeat i s = s) ∧
    (∀ pr, p.profile = some pr →
      startRepeat i s = s.setControl i (.key p { c with timer := some s.profiles[pr].delay, sent := 0 }) ∧
      ∀ n, n = (if c.sent < 255 then c.sent + 1 else c.sent) →
        giveRepeat i s = (giveNotice i .repeat_ n none {}
          (s.setControl i (.key p { c with sent := n, repeatDue := false }))).updKey i fun k => { k with
            timer := if s.profiles[pr].limit ≠ 0 ∧ s.profiles[pr].limit ≤ n then none
              else some s.profiles[pr].interval }))

/-- The steps of a sample against the phase baseline (R81): a successor in the cycle 0, 1, 3, 2 is +1, a predecessor
-1, the opposite a skip, which is counted, and the baseline becomes the sample in every case. A step is added to the
sub-position, and where that makes the steps of a turn in either direction the turn is counted and the sub-position
returns to 0 (R82). Samples are decoded one at a time, first to last (R80): what each leaves is what the next starts
from, the turns add up, the baseline ends at the last sample, and the carry and its flag stay as they were (R84). No
step is lost between the sub-position and the turns (R82): over any samples, the sub-position after and the steps of
the turns counted make up the sub-position before and the steps taken, and the sub-position stays below a turn. A
report (R80, R83) decodes its four samples, oldest first; the turns are multiplied by the factor at a threshold above 0
that they reach, negated under invert, and placed where they are not 0. -/
def Obligations.EncoderStepsBecomeTurns : Prop :=
  (∀ b : BitVec 2, stepOf b b = some 0 ∧ stepOf b (BitVec.xor b 3) = none) ∧
  (stepOf 0 1 = some 1 ∧ stepOf 1 3 = some 1 ∧ stepOf 3 2 = some 1 ∧ stepOf 2 0 = some 1 ∧
    stepOf 1 0 = some (-1) ∧ stepOf 3 1 = some (-1) ∧ stepOf 2 3 = some (-1) ∧ stepOf 0 2 = some (-1)) ∧
  (∀ (r : Resolution) (c : EncoderCtx) (x : BitVec 2),
    (stepOf c.phase x = none → decodeSample r c x =
      ({ c with phase := x, skips := if c.skips < 255 then c.skips + 1 else c.skips }, 0)) ∧
    (stepOf c.phase x = some 0 → decodeSample r c x = ({ c with phase := x }, 0)) ∧
    (∀ d, stepOf c.phase x = some d → d ≠ 0 →
      (c.sub + d = r.steps → decodeSample r c x = ({ c with phase := x, sub := 0 }, 1)) ∧
      (c.sub + d = -r.steps → decodeSample r c x = ({ c with phase := x, sub := 0 }, -1)) ∧
      (c.sub + d ≠ r.steps → c.sub + d ≠ -r.steps →
        decodeSample r c x = ({ c with phase := x, sub := c.sub + d }, 0)))) ∧
  (∀ (r : Resolution) (c : EncoderCtx), decodeSamples r [] c = (c, 0) ∧
    ∀ (x : BitVec 2) (xs : List (BitVec 2)) (a b : EncoderCtx) (m n : Int),
      decodeSample r c x = (a, m) → decodeSamples r xs a = (b, n) → decodeSamples r (x :: xs) c = (b, m + n)) ∧
  (∀ (r : Resolution) (c e : EncoderCtx) (xs : List (BitVec 2)) (n : Int), decodeSamples r xs c = (e, n) →
    e.phase = xs.getLastD c.phase ∧ e.carry = c.carry ∧ e.carryOwed = c.carryOwed ∧ c.skips ≤ e.skips) ∧
  (∀ (r : Resolution) (c : EncoderCtx) (xs : List (BitVec 2)), -r.steps < c.sub → c.sub < r.steps →
    -r.steps < (decodeSamples r xs c).1.sub ∧ (decodeSamples r xs c).1.sub < r.steps ∧
    ∃ steps : List Int, steps.length = xs.length ∧ (∀ d ∈ steps, d = -1 ∨ d = 0 ∨ d = 1) ∧
      (∀ k, k < xs.length → steps[k]? = (xs[k]?).map fun x =>
        (stepOf (if k = 0 then c.phase else xs.getD (k - 1) 0) x).getD 0) ∧
      (decodeSamples r xs c).1.sub + r.steps * (decodeSamples r xs c).2 = c.sub + steps.sum) ∧
  (∀ (i : Nat) (v : Word) (s : State) (p : EncoderParams) (c e : EncoderCtx) (d x y : Int),
    (s.element i).control = .encoder p c →
    (e, d) = decodeSamples p.resolution
      [v.extractLsb' 6 2, v.extractLsb' 4 2, v.extractLsb' 2 2, v.extractLsb' 0 2] c →
    x = (if 0 < p.threshold ∧ (d ≤ -p.threshold ∨ (p.threshold : Int) ≤ d) then d * p.factor else d) →
    y = (if p.invert = true then -x else x) →
    encoderReport i v s = if y = 0 then s.setControl i (.encoder p e) else placeTurn i y (s.setControl i (.encoder p e))) ∧
  Resolution.fine.steps = 1 ∧ Resolution.half.steps = 2 ∧ Resolution.coarse.steps = 4

/-- Placing a turn (R104): to the carry while one is owed; into the untaken Turn, up to the coalesce limit, with the
remainder to the carry; or as a new Turn, whose failure puts the whole of it in the carry. The untaken Turn is one that
names the element's index under its present binding; it is changed where it stands, and nothing else is. -/
def Obligations.TurnIsPlacedByItsCases : Prop :=
  (∀ (i : Nat) (d : Int) (s : State) (p : EncoderParams) (c : EncoderCtx) (m : ModuleIx),
    (s.element i).control = .encoder p c → s.bound i = some m →
    (c.carryOwed = true → placeTurn i d s = s.setControl i (.encoder p { c with
      carry := max (-32767) (min 32767 (c.carry + d)) })) ∧
    (∀ q, c.carryOwed = false → s.findUntaken (s.isFor i .turn) = some q →
      (-p.limit ≤ q.value + d → q.value + d ≤ p.limit →
        placeTurn i d s = amend (s.isFor i .turn) (fun n => { n with value := q.value + d }) s) ∧
      (-p.limit ≤ q.value → q.value ≤ p.limit → p.limit < q.value + d →
        placeTurn i d s = State.setControl (amend (s.isFor i .turn) (fun n => { n with value := p.limit }) s) i
          (.encoder p { c with carry := q.value + d - p.limit, carryOwed := true })) ∧
      (-p.limit ≤ q.value → q.value ≤ p.limit → q.value + d < -p.limit →
        placeTurn i d s = State.setControl (amend (s.isFor i .turn) (fun n => { n with value := -p.limit }) s) i
          (.encoder p { c with carry := q.value + d + p.limit, carryOwed := true })) ∧
      ((q.value < -p.limit ∨ p.limit < q.value) → (q.value + d < -p.limit ∨ p.limit < q.value + d) →
        placeTurn i d s = s.setControl i (.encoder p { c with carry := d, carryOwed := true }))) ∧
    (∀ v n, c.carryOwed = false → s.findUntaken (s.isFor i .turn) = none → v = max (-(p.limit : Int)) (min p.limit d) →
      n = ⟨.turn, (s.element i).lane, m.val + 1, i - (s.module m).entry.base, v, none, {}, some i⟩ →
      (s.room (s.element i).lane = true → v = d → placeTurn i d s = s.pushNotice n) ∧
      (s.room (s.element i).lane = true → v ≠ d → placeTurn i d s =
        State.setControl (s.pushNotice n) i (.encoder p { c with carry := d - v, carryOwed := true })) ∧
      (s.room (s.element i).lane = false → placeTurn i d s =
        State.setControl (s.countOverflow (s.element i).lane) i (.encoder p { c with carry := d, carryOwed := true })))) ∧
  (∀ (y : Notice → Bool) (f : Notice → Notice) (s : State),
    (s.findUntaken y = none ↔ ∀ l, ∀ n ∈ (s.lane l).fifo, y n = false) ∧
    (s.findUntaken y = none → amend y f s = s) ∧
    (∀ n, s.findUntaken y = some n → ∃ l a b, (s.lane l).fifo = a ++ n :: b ∧ y n = true ∧ (∀ z ∈ a, y z = false) ∧
      (∀ k < l, ∀ z ∈ (s.lane k).fifo, y z = false) ∧
      amend y f s = s.setLane l { s.lane l with fifo := a ++ f n :: b })) ∧
  (∀ (s : State) (i : Nat) (k : NoticeKind) (n : Notice), s.isFor i k n = true ↔
    n.index = some i ∧ n.kind = k ∧
      ∃ m, s.bound i = some m ∧ n.module = m.val + 1 ∧ n.element = i - (s.module m).entry.base)

/-- The zone of a level (R88): the table of zones with the deadband as hysteresis, a Zone notice at each change and no
other, and with the zones field off the zone Mid and no notice. A reported value (R87, R89 to R91): the same value
changes nothing; another becomes the raw value and brings the zone up to date, then the untaken Level; without one, a
value within the deadband of the last given drops what is held, one outside is held while the pace timer runs, and is
given otherwise: queued, it becomes the last given value and the timer starts with a pace above 0; not queued, the
element is stale. That a value within the deadband of what an expiry has just given is dropped, by R90 against the first
row of R93, is log 32 (DEDUCED). -/
def Obligations.ZoneFollowsItsTable : Prop :=
  (∀ (i v : Nat) (s : State) (p : LevelParams) (c : LevelCtx), (s.element i).control = .level p c →
    ∃ z, (p.zones = false → z = .mid) ∧
      (p.zones = true → c.zone = .mid → (v < p.low → z = .low) ∧ (p.low ≤ v → p.high < v → z = .high) ∧
        (p.low ≤ v → v ≤ p.high → z = .mid)) ∧
      (p.zones = true → c.zone = .low → (p.high < v → z = .high) ∧ (v ≤ p.high → p.low + p.deadband ≤ v → z = .mid) ∧
        (v ≤ p.high → v < p.low + p.deadband → z = .low)) ∧
      (p.zones = true → c.zone = .high → (v < p.low → z = .low) ∧
        (p.low ≤ v → (v : Int) ≤ (p.high : Int) - p.deadband → z = .mid) ∧
        (p.low ≤ v → (p.high : Int) - p.deadband < v → z = .high)) ∧
      (p.zones = true ∧ z ≠ c.zone → updateZone i v s =
        giveNotice i .zone 0 (some z) {} (s.setControl i (.level p { c with zone := z }))) ∧
      (p.zones = false ∨ z = c.zone → updateZone i v s = s.setControl i (.level p { c with zone := z }))) ∧
  (∀ (i v : Nat) (s : State) (p : LevelParams) (c : LevelCtx), (s.element i).control = .level p c →
    (c.raw = v → levelReport i v s = s) ∧
    (∀ u q k, c.raw ≠ v → u = updateZone i v (s.setControl i (.level p { c with raw := v })) →
      (u.element i).control = .level q k →
      levelReport i v s =
        if u.hasUntaken (u.isFor i .level) = true then replaceLevel i v k.zone u else judgeLevel i v u) ∧
    (∀ z, replaceLevel i v z s = State.setControl (amend (s.isFor i .level) (fun n => { n with
        value := v, zone := some z }) s) i (.level p { c with lastGiven := some v, held := none })) ∧
    (∀ g, c.lastGiven = some g → (v : Int) - g < p.deadband → (g : Int) - v < p.deadband →
      judgeLevel i v s = s.setControl i (.level p { c with held := none })) ∧
    ((∀ g, c.lastGiven = some g → (p.deadband : Int) ≤ (v : Int) - g ∨ (p.deadband : Int) ≤ (g : Int) - v) →
      (c.timer ≠ none → judgeLevel i v s = s.setControl i (.level p { c with held := some v })) ∧
      (∀ m, c.timer = none → s.bound i = some m →
        (s.room (s.element i).lane = true → judgeLevel i v s = State.setControl
          (State.pushNotice ⟨.level, (s.element i).lane, m.val + 1, i - (s.module m).entry.base, v, some c.zone, {},
            some i⟩ s) i
          (.level p { c with lastGiven := some v, timer := if 0 < p.pace then some p.pace else none })) ∧
        (s.room (s.element i).lane = false → judgeLevel i v s = State.setControl
          (s.countOverflow (s.element i).lane) i (.level p { c with stale := true }))))) ∧
  (∀ (y : Notice → Bool) (s : State), s.hasUntaken y = true ↔ ∃ l, ∃ n ∈ (s.lane l).fifo, y n = true)

/-! ## The notice queue -/

/-- Queuing a notice (R101, R102, R113): to the back of its lane while the lane is below its quota and a slot is free;
otherwise the lane's overflow counter rises and the notice leaves what its kind leaves: a Repeat, a Raw and a Press in
Press Only mode one more in Discarded Notices, a system notice one more in the system-lost count, any other key or
level notice the element's stale flag. An element's notice names lane, module and element of its entry and binding (R65,
R84, R98); a system notice is one of lane 0 (R111). A slot is in use for each notice in a lane and for the one whose frame
is being sent (R99). -/
def Obligations.EnqueueOrItsConsequence : Prop :=
  (∀ (n : Notice) (s f : State),
    f = s.setLane n.lane { s.lane n.lane with overflow :=
      if (s.lane n.lane).overflow < 65535 then (s.lane n.lane).overflow + 1 else (s.lane n.lane).overflow } →
    s.pushNotice n = s.setLane n.lane { s.lane n.lane with fifo := (s.lane n.lane).fifo ++ [n] } ∧
    s.countOverflow n.lane = f ∧
    ((s.lane n.lane).fifo.length < (s.lane n.lane).entry.quota → s.queued + s.noticeInFlight < 128 →
      notify n s = s.pushNotice n) ∧
    ((s.lane n.lane).entry.quota ≤ (s.lane n.lane).fifo.length ∨ 128 ≤ s.queued + s.noticeInFlight →
      ((n.kind = .repeat_ ∨ n.kind = .raw) → notify n s = { f with counters := { s.counters with
        discarded := if s.counters.discarded < 65535 then s.counters.discarded + 1 else s.counters.discarded } }) ∧
      ((n.kind = .restarted ∨ n.kind = .moduleJoined ∨ n.kind = .moduleLost ∨ n.kind = .serviceOverdue ∨
          n.kind = .serviceFault) →
        notify n s = { f with systemLost := if s.systemLost < 255 then s.systemLost + 1 else s.systemLost }) ∧
      (∀ i p c, n.index = some i → (s.element i).control = .key p c →
        ((n.kind = .press ∨ n.kind = .release) → p.mode = .both →
          notify n s = f.setControl i (.key p { c with stale := true })) ∧
        (n.kind = .press → p.mode = .pressOnly → notify n s = { f with counters := { s.counters with
          discarded := if s.counters.discarded < 65535 then s.counters.discarded + 1 else s.counters.discarded } }) ∧
        (n.kind = .toggle → notify n s = f.setControl i (.key p { c with stale := true }))) ∧
      (∀ i p c, n.index = some i → (s.element i).control = .level p c → (n.kind = .level ∨ n.kind = .zone) →
        notify n s = f.setControl i (.level p { c with stale := true })))) ∧
  (∀ (l : Fin 8) (s : State), s.room l = true ↔
    (s.lane l).fifo.length < (s.lane l).entry.quota ∧ s.queued + s.noticeInFlight < 128) ∧
  (∀ (i : Nat) (k : NoticeKind) (v : Int) (z : Option Zone) (g : Flags) (s : State),
    (s.bound i = none → giveNotice i k v z g s = s) ∧
    (∀ m, s.bound i = some m → giveNotice i k v z g s =
      notify ⟨k, (s.element i).lane, m.val + 1, i - (s.module m).entry.base, v, z, g, some i⟩ s)) ∧
  (∀ (k : NoticeKind) (m e : Nat) (v : Int), systemNotice k m e v = ⟨k, 0, m, e, v, none, {}, none⟩) ∧
  (∀ v : Int, Notice.restarted v = ⟨.restarted, 0, 0, 0, v, none, {}, none⟩) ∧
  (∀ s : State, s.queued = ((List.finRange 8).map fun l => (s.lane l).fifo.length).sum ∧
    (∀ n, s.consoleTx = some (.notice n) → s.noticeInFlight = 1) ∧
    ((∀ n, s.consoleTx ≠ some (.notice n)) → s.noticeInFlight = 0) ∧
    s.freeSlots = 128 - (s.queued + s.noticeInFlight))

/-- What an owed element is given at its service (R110): the notice that states its condition, built from its binding,
with the flag cleared; a level's last given value becomes the raw value and its held value is dropped; a carry of 0
gives none. The service pass (R109, R112): the owed Overflow first where lane 0 has room, its value the system-lost
count, which becomes 0; then lanes 0 to 7, the owed elements of each in index order: one whose untaken notice waits is
passed over, one that finds room is served, the first that finds none ends its lane, and with no free slot nothing more
is done. An encoder with carry 0 is taken like any other (log 15); an owed element bound to no module is left out (log
23, no run has one). -/
def Obligations.ServiceStatesTheCondition : Prop :=
  (∀ (i : Nat) (s : State) (m : ModuleIx), s.bound i = some m →
    (∀ p c fl, (s.element i).control = .key p c → p.mode = .both →
      fl = (if (s.module m).state = .draining then ({ removed := true } : Flags) else { resync := true }) →
      serveElement i s = State.setControl (s.pushNotice ⟨if c.closed then .press else .release, (s.element i).lane,
        m.val + 1, i - (s.module m).entry.base, 0, none, fl, some i⟩) i (.key p { c with stale := false })) ∧
    (∀ p c, (s.element i).control = .key p c → p.mode = .toggle →
      serveElement i s = State.setControl (s.pushNotice ⟨.toggle, (s.element i).lane, m.val + 1,
        i - (s.module m).entry.base, if c.latched then 1 else 0, none, { resync := true }, some i⟩) i
        (.key p { c with stale := false })) ∧
    (∀ p c, (s.element i).control = .level p c →
      serveElement i s = State.setControl (s.pushNotice ⟨.level, (s.element i).lane, m.val + 1,
        i - (s.module m).entry.base, c.raw, some c.zone, { resync := true }, some i⟩) i
        (.level p { c with stale := false, lastGiven := some c.raw, held := none })) ∧
    (∀ p c, (s.element i).control = .encoder p c → c.carry ≠ 0 →
      serveElement i s = State.setControl (s.pushNotice ⟨.turn, (s.element i).lane, m.val + 1,
        i - (s.module m).entry.base, c.carry, none, { resync := true }, some i⟩) i
        (.encoder p { c with carry := 0, carryOwed := false })) ∧
    (∀ p c, (s.element i).control = .encoder p c → c.carry = 0 →
      serveElement i s = s.setControl i (.encoder p { c with carry := 0, carryOwed := false }))) ∧
  (∀ s : State,
    servicePass s = (List.finRange 8).foldl (fun t l => serveLane l (t.owedOn l) t) (serveOverflow s) ∧
    (0 < s.systemLost → s.room 0 = true → serveOverflow s = { s.pushNotice
      ⟨.overflow, 0, 0, 0, s.systemLost, none, {}, none⟩ with systemLost := 0 }) ∧
    (s.systemLost = 0 ∨ s.room 0 = false → serveOverflow s = s) ∧
    (∀ l, s.tableOk → (s.owedOn l).Pairwise (· < ·) ∧ ∀ i, i ∈ s.owedOn l ↔
      (s.element i).lane = l ∧ s.bound i ≠ none ∧
        ((∃ p c, (s.element i).control = .key p c ∧ c.stale = true) ∨
          (∃ p c, (s.element i).control = .level p c ∧ c.stale = true) ∨
          ∃ p c, (s.element i).control = .encoder p c ∧ c.carryOwed = true))) ∧
  (∀ (l : Fin 8) (i : Nat) (rest : List Nat) (s : State),
    serveLane l [] s = s ∧
    (128 ≤ s.queued + s.noticeInFlight → serveLane l (i :: rest) s = s) ∧
    (s.queued + s.noticeInFlight < 128 →
      (∀ p c, (s.element i).control = .key p c → p.mode = .pressOnly →
        serveLane l (i :: rest) s = serveLane l rest (s.setControl i (.key p { c with stale := false }))) ∧
      ((∀ p c, (s.element i).control = .key p c → p.mode ≠ .pressOnly) →
        (s.serviceBlocked i = true → serveLane l (i :: rest) s = serveLane l rest s) ∧
        (s.serviceBlocked i = false → s.room l = true →
          serveLane l (i :: rest) s = serveLane l rest (serveElement i s)) ∧
        (s.serviceBlocked i = false → s.room l = false → serveLane l (i :: rest) s = s))) ∧
    (s.serviceBlocked i = true ↔ ∃ k, ∃ n ∈ (s.lane k).fifo, s.isFor i n.kind n = true ∧
      ((∃ p c, (s.element i).control = .key p c ∧ p.mode = .both ∧ (n.kind = .press ∨ n.kind = .release)) ∨
        (∃ p c, (s.element i).control = .key p c ∧ p.mode = .toggle ∧ n.kind = .toggle) ∨
        (∃ p c, (s.element i).control = .encoder p c ∧ n.kind = .turn) ∨
        ∃ p c, (s.element i).control = .level p c ∧ n.kind = .level)))

/-! ## Arbitration -/

/-- Eligibility (R117), and that a notice is taken only from a lane that is eligible at that moment. -/
def Obligations.OnlyEligibleLanesAreTaken : Prop :=
  (∀ (s : State) (l : Fin 8), s.eligible l = true ↔
    (s.lane l).fifo ≠ [] ∧ (s.lane l).entry.masked = false ∧ (s.lane l).entry.priority ≤ s.settings.ceiling ∧
      ∀ k ∈ s.stack, (s.lane l).entry.priority < (s.lane k).entry.priority) ∧
  (∀ (s : State) (l : Fin 8), l ∈ s.stack → s.eligible l = false) ∧
  ∀ (s t : State) (n : Notice), selectStep s = some t → t.consoleTx = some (.notice n) →
    ∃ l, s.eligible l = true ∧ (s.lane l).fifo.head? = some n

/-- The offer (R118): an eligible lane of the lowest priority number, the lowest lane number among those; none where
no lane is eligible. -/
def Obligations.OfferIsTheBestEligibleLane : Prop :=
  ∀ s : State, (s.offer = none ↔ ∀ l, s.eligible l = false) ∧
    ∀ l, s.offer = some l → s.eligible l = true ∧ ∀ k, s.eligible k = true →
      (s.lane l).entry.priority < (s.lane k).entry.priority ∨
        ((s.lane l).entry.priority = (s.lane k).entry.priority ∧ l ≤ k)

/-- A selection (R120), with the console serializer Idle and pause-in deasserted: a reply first; then the offered
notice, passed over when the burst count has reached the notice burst while a frame waits and bulk hold is off; then a
pass-through frame while bulk hold is off; then nothing. Bulk hold is on while a lane of the in-service stack is urgent in
its current entry, and off otherwise. -/
def Obligations.SelectionFollowsItsSteps : Prop :=
  (∀ s : State, s.bulkHold = true ↔ ∃ l ∈ s.stack, (s.lane l).entry.urgent = true) ∧
  ∀ s : State, s.consoleTx = none → s.pauseIn = false →
    (∀ r rest, s.replies = r :: rest → selectStep s = some { s with replies := rest, consoleTx := some (.reply r) }) ∧
    (∀ l, s.replies = [] → s.offer = some l →
      ¬ (s.settings.burst ≤ s.burst ∧ s.passQueue ≠ [] ∧ s.bulkHold = false) → selectStep s = some (takeNotice l s)) ∧
    (∀ f rest, s.replies = [] → s.passQueue = f :: rest → s.bulkHold = false →
      (s.offer = none ∨ s.settings.burst ≤ s.burst) →
      selectStep s = some { s with passQueue := rest, consoleTx := some (.pass f), burst := 0 }) ∧
    (s.replies = [] → s.offer = none → (s.passQueue = [] ∨ s.bulkHold = true) → selectStep s = none)

/-- The take of a notice (R103, R121 to R124): it leaves the front of its lane and is in flight; the burst count rises
if a pass-through frame waits and is 0 otherwise; a Held lane joins the in-service stack and its timer starts with a
limit above 0; a service pass follows if the lane is then below its quota, and that no other event falls between the
take and the pass is the model's choice (log 33). -/
def Obligations.TakeOfANotice : Prop :=
  ∀ (l : Fin 8) (s w : State) (n : Notice) (rest : List Notice), (s.lane l).fifo = n :: rest →
    w = { s.setLane l { s.lane l with
        fifo := rest,
        timer := if (s.lane l).entry.mode = .held ∧ 0 < (s.lane l).entry.limit then some (s.lane l).entry.limit
          else (s.lane l).timer } with
      consoleTx := some (.notice n),
      burst := if s.passQueue = [] then 0 else if s.burst < 32 then s.burst + 1 else s.burst,
      stack := if (s.lane l).entry.mode = .held then s.stack ++ [l] else s.stack } →
    takeNotice l s = if rest.length < (s.lane l).entry.quota then servicePass w else w

/-- The end of the frame in flight (R103, R108, R122): the serializer is Idle, and after a notice a service pass
follows; with no frame in flight the event does nothing. The frame that has been sent (R3, R17): a notice is a frame of
kind 3 and a reply one of kind 4, both of address 63, and a pass-through frame is unchanged. The eight bytes of a notice:
kind code, lane, module, element, the value in two bytes and in two's complement, the zone, the flags Baseline, Resync,
Lost and Removed from bit 0 up. The bytes of a reply: tag, code, outcome, reason, and the data with Done only. It rests on
the model's choices of log 1 and log 5. -/
def Obligations.ConsoleFrameEnds : Prop :=
  (∀ (n : Notice) (r : Reply) (f : Frame),
    (ConsoleFrame.notice n).frame = ⟨3, 63, [n.kind.code, BitVec.ofNat 8 n.lane.val, BitVec.ofNat 8 n.module,
      BitVec.ofNat 8 n.element] ++ twoBytes (n.value % 65536).toNat ++
      [match n.zone with | none => 0 | some .low => 1 | some .mid => 2 | some .high => 3,
        BitVec.ofNat 8 ((if n.flags.baseline then 1 else 0) + (if n.flags.resync then 2 else 0) +
          (if n.flags.lost then 4 else 0) + (if n.flags.removed then 8 else 0))]⟩ ∧
    (ConsoleFrame.reply r).frame = ⟨4, 63, match r.answer with
      | .done data => [r.tag, r.code, 0, 0] ++ data
      | .refused .badRequest => [r.tag, r.code, 1, 1]
      | .refused .badArgument => [r.tag, r.code, 1, 2]
      | .refused .moduleActive => [r.tag, r.code, 1, 3]
      | .refused .overlap => [r.tag, r.code, 1, 4]⟩ ∧
    (ConsoleFrame.pass f).frame = f) ∧
  (NoticeKind.press.code = 1 ∧ NoticeKind.release.code = 2 ∧ NoticeKind.repeat_.code = 3 ∧ NoticeKind.toggle.code = 4 ∧
    NoticeKind.turn.code = 5 ∧ NoticeKind.level.code = 6 ∧ NoticeKind.zone.code = 7 ∧ NoticeKind.raw.code = 8 ∧
    NoticeKind.restarted.code = 16 ∧ NoticeKind.moduleJoined.code = 17 ∧ NoticeKind.moduleLost.code = 18 ∧
    NoticeKind.serviceOverdue.code = 19 ∧ NoticeKind.serviceFault.code = 20 ∧ NoticeKind.overflow.code = 21) ∧
  ∀ s : State, (∀ n, s.consoleTx = some (.notice n) →
      exec .consoleFrameSent s = .next (settle (servicePass { s with consoleTx := none }))) ∧
    (∀ r, s.consoleTx = some (.reply r) → exec .consoleFrameSent s = .next (settle { s with consoleTx := none })) ∧
    (∀ f, s.consoleTx = some (.pass f) → exec .consoleFrameSent s = .next (settle { s with consoleTx := none })) ∧
    (s.consoleTx = none → exec .consoleFrameSent s = .next s)

/-- Service Done (R125): a lane in the stack leaves it and its timer stops; one out of it with its overdue mark draws
a Service Fault, Late, and loses the mark; any other draws Not In Service; a lane above 7 is a malformed frame. It
rests on the model's choices of log 1 and log 8. -/
def Obligations.ServiceDoneIsAnswered : Prop :=
  ∀ (b : Byte) (s e : State), s.holding = false → e = endPartial .console s →
    (∀ l : Fin 8, b.toNat = l.val →
      (l ∈ s.stack → exec (.serviceDone b) s = .next (settle (State.setLane
        { e with stack := e.stack.filter (· ≠ l) } l { e.lane l with timer := none }))) ∧
      (l ∉ s.stack → (s.lane l).overdue = true → exec (.serviceDone b) s =
        .next (settle (notify ⟨.serviceFault, 0, 0, l.val, 1, none, {}, none⟩
          (e.setLane l { e.lane l with overdue := false })))) ∧
      (l ∉ s.stack → (s.lane l).overdue = false → exec (.serviceDone b) s =
        .next (settle (notify ⟨.serviceFault, 0, 0, l.val, 2, none, {}, none⟩ e)))) ∧
    (7 < b.toNat → exec (.serviceDone b) s = .next (settle (e.countFrameError .console)))

/-! ## The outbound path and the internal steps -/

/-- The surface serializer (R3, R133, R136): Idle with a frame waiting it begins to send; at the end the head's entry
is freed and the owed pass follows; without one there is no such event. The owed pass, while an entry is free: the Pace
frame first, carrying the chain pace as it stands; then the Resync Request of the lowest address; then the echo Indicator
of the lowest element index, watched, carrying the echo bit as it stands; each clears its flag, and the pass goes on until
no entry is free or nothing is owed. A Pace frame or a Resync Request asked for is queued, or owed where no entry is free
(R30, R135). Pause-out is asserted while fewer than 8 of the 32 entries are free, and deasserted otherwise (R13). It rests
on the model's choices of log 1 and log 5. -/
def Obligations.SurfaceFrameIsSentAndOwedFollow : Prop :=
  (∀ s : State,
    (s.holding = false → s.surfaceSending = false → s.outbound ≠ [] →
      exec .surfaceFrameStart s = .next (settle { s with surfaceSending := true })) ∧
    (s.surfaceSending = true → exec .surfaceFrameSent s =
      .next (settle (owedPass { s with outbound := s.outbound.tail, surfaceSending := false }))) ∧
    (s.surfaceSending = false → exec .surfaceFrameSent s = .next s) ∧
    (s.holding = false → (s.surfaceSending = true ∨ s.outbound = []) → exec .surfaceFrameStart s = .next (settle s))) ∧
  (∀ s : State,
    (32 ≤ s.outbound.length → owedPass s = s) ∧
    (s.outbound.length < 32 →
      (s.paceOwed = true → owedPass s = owedPass { s with
        outbound := s.outbound ++ [⟨⟨6, 0, [s.chainPace.byte]⟩, false⟩], paceOwed := false }) ∧
      (∀ m, s.paceOwed = false → (s.module m).resyncOwed = true → (∀ k < m, (s.module k).resyncOwed = false) →
        owedPass s = owedPass (State.setModule { s with
          outbound := s.outbound ++ [⟨⟨7, BitVec.ofNat 6 (m.val + 1), []⟩, false⟩] } m
          { s.module m with resyncOwed := false })) ∧
      (s.tableOk → s.paceOwed = false → (∀ m, (s.module m).resyncOwed = false) →
        (∀ i p c n m, (s.element i).control = .key p c → p.echo = some n → s.bound i = some m → c.echoPending = true →
          (∀ j < i, ∀ q d, (s.element j).control = .key q d → d.echoPending = true →
            q.echo = none ∨ s.bound j = none) →
          ∃ t : State, s.lampQueued t m n c.echoBit i ∧
            owedPass s = owedPass (t.setControl i (.key p { c with echoPending := false }))) ∧
        ((∀ i p c, (s.element i).control = .key p c → c.echoPending = true → p.echo = none ∨ s.bound i = none) →
          owedPass s = s)))) ∧
  (∀ (m : ModuleIx) (s : State),
    (s.outbound.length < 32 →
      requestPace s = { s with outbound := s.outbound ++ [⟨⟨6, 0, [s.chainPace.byte]⟩, false⟩] } ∧
      requestResync m s = { s with outbound := s.outbound ++ [⟨⟨7, BitVec.ofNat 6 (m.val + 1), []⟩, false⟩] }) ∧
    (32 ≤ s.outbound.length → requestPace s = { s with paceOwed := true } ∧
      requestResync m s = s.setModule m { s.module m with resyncOwed := true }) ∧
    (s.pauseOut = true ↔ 32 - s.outbound.length < 8))

/-- The quiet rule and the activity rule (R141, R142), at the report of an applied sweep. A change to Slow makes every pace
view Slow and restarts the watchdog of each Active module whose view was Brisk (R32, R140, log 14). -/
def Obligations.ChainPaceFollowsItsRules : Prop :=
  ∀ (slots : Bool) (s : State),
    (s.chainPace = .brisk →
      (0 < s.settings.quiet ∧ (∃ m, (s.module m).state = .active) ∧
        (∀ m, (s.module m).state = .active → s.settings.quiet ≤ (s.module m).emptyRun ∧
          ∀ i ∈ s.boundTo m, ∀ p c, (s.element i).control = .key p c → c.closed = false ∧ c.rawClosed = false) ∧
        s.stack = [] → toldApplied slots s = requestPace (setChainPace .slow s)) ∧
      (s.settings.quiet = 0 ∨ (∀ m, (s.module m).state ≠ .active) ∨ s.stack ≠ [] ∨
        (∃ m, (s.module m).state = .active ∧ ((s.module m).emptyRun < s.settings.quiet ∨
          ∃ i ∈ s.boundTo m, ∃ p c, (s.element i).control = .key p c ∧ (c.closed = true ∨ c.rawClosed = true))) →
        toldApplied slots s = s)) ∧
    (s.chainPace = .slow →
      toldApplied slots s = (if slots then requestPace { s with chainPace := .brisk } else s) ∧
      toldJoined s = requestPace { s with chainPace := .brisk }) ∧
    (s.chainPace = .brisk → toldJoined s = s ∧ setChainPace .slow s = { s with
      chainPace := .slow,
      modules := Vector.ofFn fun m => { s.module m with
        paceView := .slow,
        watchdog := if (s.module m).paceView = .brisk ∧ (s.module m).state = .active then some s.settings.slowTimeout
          else (s.module m).watchdog } })

/-- A reply that waits enters a free entry of the reply queue, and its request leaves (R146, R147). A request that reaches
the head is executed at once (R146), and as it would be alone: what stands behind it, and the replies that wait, change
nothing and are not changed, and that it waited shows in Read Status only (R149). What it leaves is a reply under its tag
and code, or a flush begun. One that its code, its length or its restart form refuses (R18, the first check of R148, R156)
leaves the refusal with Bad Request or Bad Argument and writes nothing; a Write Element too short for its class byte is
judged as log 17 says (DEDUCED). It rests on the model's choices of log 1; a Restart that passes its checks never waits (log 23). -/
def Obligations.WaitingReplyEnters : Prop :=
  (∀ (s : State) (r : Reply), s.holding = false → s.head = .awaitingSlot r →
    (s.replies.length < 4 → exec .awaitingSlotEnd s = .next (settle { s with
      replies := s.replies ++ [r], requests := s.requests.tail, head := .ready })) ∧
    (4 ≤ s.replies.length → exec .awaitingSlotEnd s = .next (settle s))) ∧
  (∀ (s : State) (r : Request) (rest : List Request), s.holding = false → s.head = .ready → s.requests = r :: rest →
    settle s = settle (carryOut r s)) ∧
  (∀ (s : State) (r : Request), ¬ (r.code = 13 ∧ (r.args = [0] ∨ r.args = [1])) →
    (∀ q x, carryOut r { s with requests := q, replies := x } = { carryOut r s with requests := q, replies := x }) ∧
    (∀ w, r.code ≠ 1 → carryOut { r with waited := w } s = carryOut r s) ∧
    ((∃ x, (carryOut r s).head = .awaitingSlot ⟨r.tag, r.code, x⟩) ∨
      r.code = 5 ∧ ∃ m x, (carryOut r s).head = .flushing m x ∧ (s.module m).state = .active)) ∧
  (∀ (s : State) (r : Request) (why : Reason), turnedAway r.code r.args why →
    carryOut r s = { s with head := .awaitingSlot ⟨r.tag, r.code, .refused why⟩ })

/-- A flush with nothing owed completes (R41): the entry installed, the contexts of both ranges idle, the last applied
sweep absent, the empty-run count 0, the module Waiting with a Resync Request queued, or owed where no entry is free
(R30), or Unmapped with none owed, and the Done reply handed over. It rests on the model's choices of log 1 and log
12. -/
def Obligations.FlushCompletes : Prop :=
  ∀ (s : State) (m : ModuleIx) (x : ModuleEntry) (r : Request) (rest : List Request), s.holding = false →
    s.head = .flushing m x → s.requests = r :: rest →
    (∀ i ∈ s.boundTo m, ∀ p c, (s.element i).control = .key p c →
      ¬ (p.mode = .both ∧ c.stale = true) ∧ c.echoPending = false) →
    ∃ t : State, exec .flushComplete s = .next (settle { t with head := .awaitingSlot ⟨r.tag, r.code, .done []⟩ }) ∧
      t.module m = { s.module m with
        entry := x, lastApplied := none, emptyRun := 0, state := if x.enabled then .waiting else .unmapped,
        resyncOwed := x.enabled && (decide (32 ≤ s.outbound.length) || (s.module m).resyncOwed) } ∧
      (∀ k, k ≠ m → t.module k = s.module k) ∧
      (∀ i, (x.binds i = true ∨ (s.module m).entry.binds i = true) →
        t.element i = { s.element i with control := (s.element i).control.toIdle }) ∧
      (∀ i, x.binds i = false → (s.module m).entry.binds i = false → t.element i = s.element i) ∧
      t.outbound = (if x.enabled = true ∧ s.outbound.length < 32 then
        s.outbound ++ [⟨⟨7, BitVec.ofNat 6 (m.val + 1), []⟩, false⟩] else s.outbound) ∧
      t = { s with modules := t.modules, elements := t.elements, outbound := t.outbound }

/-! ## The capture ring -/

/-- Capture Control and Capture Read (R165, R166): a filter above 62 and a count of 0 or above 16 are refused; a read
returns the oldest readable entries and leaves the uncommitted ones; a control sets enable and filter, empties the
ring on clear, and withdraws the uncommitted entries and sets every mark afresh on any change. It rests on the model's
choices of log 1, log 8 and log 10. -/
def Obligations.CaptureRequestsAreCarriedOut : Prop :=
  ∀ (tag : Byte) (s e : State), s.managementIdle → e = endPartial .console s →
    (∀ count : Byte, exec (.captureRead tag count) s = .next (settle
      (if 1 ≤ count.toNat ∧ count.toNat ≤ 16 then
        { e with capture := { e.capture with readable := e.capture.readable.drop count.toNat } }.replied tag 15 (.done
          (BitVec.ofNat 8 (min count.toNat e.capture.readable.length) ::
            ((e.capture.readable.take count.toNat).map CaptureEntry.bytes).flatten))
      else e.replied tag 15 (.refused .badArgument)))) ∧
    (∀ enabled filter clear : Byte, 62 < filter.toNat → exec (.captureControl tag enabled filter clear) s =
      .next (settle (e.replied tag 14 (.refused .badArgument)))) ∧
    (∀ (enabled filter clear : Byte) (f : Option ModuleIx) (kept : List CaptureEntry),
      (filter = 0 ∧ f = none ∨ ∃ m, f = some m ∧ filter.toNat = m.val + 1) →
      kept = (if clear = 0 then e.capture.readable else []) →
      exec (.captureControl tag enabled filter clear) s = .next (settle
        ((if clear = 0 ∧ (enabled != 0) = e.capture.enabled ∧ f = e.capture.filter then e
          else { e with
            capture := ⟨kept, [], enabled != 0, f, e.capture.dropped⟩,
            modules := Vector.ofFn fun m => { e.module m with
              mark := if 0 < (e.module m).sweep.received then .withdrawn else .recording } }).replied tag 14
          (.done (twoBytes kept.length)))))

/-- Recording (R161, R162): an admitted report of a module whose mark is Recording is appended, uncommitted; a sweep
entry follows and commits all before it; a Withdrawn mark becomes Recording and appends nothing; a ring that is
disabled or whose filter does not match records nothing. Overflow (R163): the append withdraws every uncommitted entry
and no readable one, and each dropped sweep is counted once: that of the module, and that of every module whose mark
is Recording with a report among those withdrawn; their marks become Withdrawn, the module's own Recording where its
entry was a sweep entry. -/
def Obligations.CaptureRecordsAndOverflows : Prop :=
  (∀ (m : ModuleIx) (x : Byte) (v : Word) (o : SweepOutcome) (s : State),
    (s.capture.enabled = true → (s.capture.filter = none ∨ s.capture.filter = some m) → (s.module m).mark = .recording →
      s.capture.readable.length + s.capture.uncommitted.length < 256 →
      captureReport m x v s = { s with capture := { s.capture with
        uncommitted := s.capture.uncommitted ++ [.report m x v] } } ∧
      captureSweep m x o s = { s with capture := { s.capture with
        readable := s.capture.readable ++ s.capture.uncommitted ++ [.sweep m x o], uncommitted := [] } }) ∧
    ((s.module m).mark = .withdrawn → captureReport m x v s = s ∧
      captureSweep m x o s = s.setModule m { s.module m with mark := .recording }) ∧
    (s.capture.enabled = false ∨ (s.capture.filter ≠ none ∧ s.capture.filter ≠ some m) → (s.module m).mark = .recording →
      captureReport m x v s = s ∧ captureSweep m x o s = s)) ∧
  (∀ (m : ModuleIx) (x : Byte) (v : Word) (o : SweepOutcome) (s : State) (dropped : List ModuleIx) (ring : CaptureRing),
    s.capture.enabled = true → (s.capture.filter = none ∨ s.capture.filter = some m) → (s.module m).mark = .recording →
    256 ≤ s.capture.readable.length + s.capture.uncommitted.length →
    dropped = (List.finRange 62).filter (fun k => decide (k = m ∨ ((s.module k).mark = .recording ∧
      ∃ y w, CaptureEntry.report k y w ∈ s.capture.uncommitted))) →
    ring = { s.capture with uncommitted := [], dropped := min 65535 (s.capture.dropped + dropped.length) } →
    captureReport m x v s = { s with
      capture := ring,
      modules := Vector.ofFn fun k => { s.module k with
        mark := if dropped.contains k then .withdrawn else (s.module k).mark } } ∧
    captureSweep m x o s = { s with
      capture := ring,
      modules := Vector.ofFn fun k => { s.module k with
        mark := if k = m then .recording else if dropped.contains k then .withdrawn else (s.module k).mark } })

/-! ## Invariants of every step -/

/-- The limits of the queues, the pool, the sweep buffer, the stack and the ring, and that the outbound queue is empty
while the block is held. -/
structure Sys2Proof.Machine.State.Bounded (s : State) : Prop where
  outbound  : s.outbound.length ≤ 32
  forwarded : s.forwardedCount ≤ 28
  pass      : s.passQueue.length ≤ 16
  requests  : s.requests.length ≤ 4
  replies   : s.replies.length ≤ 4
  pool      : s.queued + s.noticeInFlight ≤ 128
  slots     : s.slotsUsed ≤ 256
  stack     : s.stack.Nodup
  burst     : s.burst ≤ 32
  capture   : s.capture.readable.length + s.capture.uncommitted.length ≤ 256
  sending   : s.surfaceSending = true → s.outbound ≠ []
  held      : s.holding = true → s.outbound = []
  detector  : s.powerReset = true → s.detector = .clear

/-- The counters and counts within their ranges (R11, R20, R43, R50, R112, R113, R131, R143, R145, R167), and the settings
(R150), the repeat profiles (R68) and the lane entries (R115) of the table store within theirs. -/
structure Sys2Proof.Machine.State.InRange (s : State) : Prop where
  link     : s.counters.surfaceErrors ≤ 65535 ∧ s.counters.consoleErrors ≤ 65535 ∧ s.counters.misaddressed ≤ 65535
  range    : s.counters.rangeErrors ≤ 65535
  notices  : s.counters.discarded ≤ 65535 ∧ s.systemLost ≤ 255 ∧ ∀ l, (s.lane l).overflow ≤ 65535
  queues   : s.counters.passDrops ≤ 65535 ∧ s.counters.outboundDrops ≤ 65535 ∧ s.counters.requestDrops ≤ 65535
  capture  : s.capture.dropped ≤ 65535
  modules  : ∀ m, (s.module m).rejected ≤ 65535 ∧ (s.module m).gaps ≤ 65535 ∧ (s.module m).duplicates ≤ 65535 ∧
    (s.module m).emptyRun ≤ 255 ∧ (s.module m).sweep.received ≤ 256
  elements : ∀ i, (s.element i).control.inRange
  settings : 10 ≤ s.settings.briskTimeout ∧ s.settings.briskTimeout ≤ 10000 ∧ 100 ≤ s.settings.slowTimeout ∧
    s.settings.slowTimeout ≤ 60000 ∧ s.settings.quiet ≤ 255 ∧ s.settings.ceiling ≤ 7 ∧ 1 ≤ s.settings.burst ∧
    s.settings.burst ≤ 32
  profiles : ∀ p : Fin 8, 1 ≤ s.profiles[p].delay ∧ s.profiles[p].delay ≤ 65535 ∧ 1 ≤ s.profiles[p].interval ∧
    s.profiles[p].interval ≤ 65535 ∧ s.profiles[p].limit ≤ 255
  lanes    : ∀ l, (s.lane l).entry.priority ≤ 7 ∧ 1 ≤ (s.lane l).entry.quota ∧ (s.lane l).entry.quota ≤ 128 ∧
    (s.lane l).entry.limit ≤ 65535

/-- The module map (R19): every range within the element table, no two enabled ranges meeting, and the same for the
entry that a flush holds. -/
structure Sys2Proof.Machine.State.Mapped (s : State) : Prop where
  range    : ∀ m, 1 ≤ (s.module m).entry.count ∧ (s.module m).entry.count ≤ 64 ∧
    (s.module m).entry.base + (s.module m).entry.count ≤ 1024
  disjoint : ∀ m k i, (s.module m).entry.binds i = true → (s.module k).entry.binds i = true → m = k
  flush    : ∀ m x, s.head = .flushing m x → 1 ≤ x.count ∧ x.count ≤ 64 ∧ x.base + x.count ≤ 1024 ∧
    ∀ k i, (s.module k).entry.binds i = true → x.binds i = true → k = m

/-- The sweep buffer's slots name elements of their module, a module in Unmapped, Silent or Draining holds none (R21,
R24), and a flush belongs to a Draining module (R37). -/
structure Sys2Proof.Machine.State.SweepsOk (s : State) : Prop where
  numbers : ∀ m, ∀ x ∈ (s.module m).sweep.slots, x.element < (s.module m).entry.count
  empty   : ∀ m, (s.module m).state = .unmapped ∨ (s.module m).state = .silent ∨ (s.module m).state = .draining →
    (s.module m).sweep.slots = []
  flush   : ∀ m x, s.head = .flushing m x → (s.module m).state = .draining

/-- A key not bound to an Active module is accepted Open with its repeat ended, and a level element not bound to one
has its pace timer stopped (the last sentence of R38). -/
def Sys2Proof.Machine.State.Rested (s : State) : Prop :=
  ∀ i, (∀ m, s.bound i = some m → (s.module m).state ≠ .active) →
    (∀ p c, (s.element i).control = .key p c → c.closed = false ∧ c.timer = none ∧ c.repeatDue = false) ∧
    ∀ p c, (s.element i).control = .level p c → c.timer = none

/-- Something is owed only while the outbound queue is full (R136). -/
def Sys2Proof.Machine.State.OwedOnlyWhenFull (s : State) : Prop :=
  s.outbound.length < 32 → s.paceOwed = false ∧ (∀ m, (s.module m).resyncOwed = false) ∧
    ∀ i m p c, s.bound i = some m → (s.element i).control = .key p c → p.echo ≠ none → c.echoPending = false

/-- The untaken notices of one kind for one element index under one module and element number. -/
def Sys2Proof.Machine.State.waitingFor (s : State) (k : NoticeKind) (i a n : Nat) : Nat :=
  ((List.finRange 8).map fun l => ((s.lane l).fifo.filter fun x =>
    x.kind = k ∧ x.index = some i ∧ x.module = a ∧ x.element = n).length).sum

/-- At most one untaken Turn and one untaken Level wait for an element under one binding (R106). -/
def Sys2Proof.Machine.State.OneWaiting (s : State) : Prop :=
  ∀ i a n, s.waitingFor .turn i a n ≤ 1 ∧ s.waitingFor .level i a n ≤ 1

/-- Nothing that the spec has follow at once is left to do while the lines are not held (log 1): no request at the head
is still to be executed, no reply waits beside a free entry, no flush with nothing owed is in flight, no frame toward the
console is left with its serializer Idle and pause-in deasserted, and no frame toward the chain with its serializer
Idle. -/
structure Sys2Proof.Machine.State.NothingDue (s : State) : Prop where
  request : s.holding = false → s.head = .ready → s.requests = []
  reply   : ∀ r, s.holding = false → s.head = .awaitingSlot r → 4 ≤ s.replies.length
  flush   : ∀ m x, s.holding = false → s.head = .flushing m x → s.requests ≠ [] →
    ∃ i ∈ s.boundTo m, ∃ p c, (s.element i).control = .key p c ∧
      (p.mode = .both ∧ c.stale = true ∨ c.echoPending = true)
  console : s.holding = false → s.consoleTx = none → s.pauseIn = false →
    s.replies = [] ∧ (∀ l, s.eligible l = false) ∧ (s.passQueue = [] ∨ s.bulkHold = true)
  chain   : s.holding = false → s.surfaceSending = true ∨ s.outbound = []

/-- The reset state meets every invariant below. -/
def Obligations.ResetMeetsTheInvariants : Prop :=
  State.reset.tableOk ∧ State.reset.Bounded ∧ State.reset.InRange ∧ State.reset.Mapped ∧ State.reset.SweepsOk ∧
    State.reset.Rested ∧ State.reset.OwedOnlyWhenFull ∧ State.reset.OneWaiting ∧ State.reset.NothingDue

/-- Every step keeps the element table canonical and within its 1024 indices (R44, log 20). -/
def Obligations.StepKeepsElementTableCanonical : Prop :=
  ∀ s t : State, s.tableOk → step s = .next t → t.tableOk

/-- Every step keeps the queues, the pool, the slots, the stack and the ring within their limits, and the counters, the
counts, the fields of every element's entry and context, and those of the settings, the repeat profiles and the lane
entries (R68, R115, R150) within their ranges: the quota of a lane is never 0. -/
def Obligations.StepKeepsQueuesAndCountersBounded : Prop :=
  (∀ s t : State, s.Bounded → step s = .next t → t.Bounded) ∧
  (∀ s t : State, s.InRange → step s = .next t → t.InRange)

/-- Every step keeps the module map: ranges within the element table, and no two enabled ones meeting (R19). -/
def Obligations.StepKeepsModuleRangesApart : Prop :=
  ∀ s t : State, s.Mapped → step s = .next t → t.Mapped

/-- After every step nothing is left due: each request executed, each reply in its queue, each flush with nothing owed
complete, each selection made, the surface serializer busy while a frame waits (R3, R41, R119, R146, R147; that the
model takes these steps at the end of each event is log 1). What the model takes there is these steps and nothing else, in
the order of log 1 (DESIGN CHOICE): the completion of a flush and the end of a wait for a reply entry, then the request at
the head, then a selection, then the start of the surface serializer; where none is due, nothing changes. -/
def Obligations.StepLeavesNothingDue : Prop :=
  (∀ s t : State, s.NothingDue → step s = .next t → t.NothingDue) ∧
  (∀ s : State, s.NothingDue → settle s = s) ∧
  (∀ s : State, s.holding = false →
    exec .flushComplete s = .next (settle s) ∧ exec .awaitingSlotEnd s = .next (settle s) ∧
    ((s.head = .ready → s.requests = []) → (∀ r, s.head = .awaitingSlot r → 4 ≤ s.replies.length) →
      (∀ m x, s.head = .flushing m x → s.requests ≠ [] → ∃ i ∈ s.boundTo m, ∃ p c, (s.element i).control = .key p c ∧
        (p.mode = .both ∧ c.stale = true ∨ c.echoPending = true)) →
      exec .consoleSelection s = .next (settle s) ∧
      (selectStep s = none → exec .surfaceFrameStart s = .next (settle s))))

/-- Every step keeps that only the controls of an Active module run a timer or are accepted Closed (R38), with the two
invariants it rests on. -/
def Obligations.TimersRunOnlyUnderActiveModules : Prop :=
  ∀ s t : State, s.Mapped → s.SweepsOk → s.Rested → step s = .next t → t.Mapped ∧ t.SweepsOk ∧ t.Rested

/-- Every step keeps that a Pace frame, a Resync Request or an echo is owed only while the outbound queue is full
(R136). -/
def Obligations.OwedFramesWaitOnlyForRoom : Prop :=
  ∀ s t : State, s.tableOk → s.Mapped → s.OwedOnlyWhenFull → step s = .next t → t.OwedOnlyWhenFull

/-- Every step keeps that at most one untaken Turn and one untaken Level wait for an element under one
binding (R106). -/
def Obligations.AtMostOneTurnAndLevelWait : Prop :=
  ∀ s t : State, s.OneWaiting → step s = .next t → t.OneWaiting
end

