-- ==== Sys2Proof/Tests/Slice0.lean ====
section
/-! SUPPORT. Tests of the model: ill-formed commands that the check refuses, single steps on small states, and for every
statement with hypotheses a state and operands that meet them. -/

namespace Sys2Proof.Tests
open Sys2Proof.Machine

set_option maxRecDepth 8000
set_option Elab.async false

/-! ## Ill-formed commands, one for each check -/

theorem test_report_address : (Instr.elementReport 63 [⟨0, 1⟩]).wellFormed = false := rfl
theorem test_report_empty : (Instr.elementReport 1 []).wellFormed = false := rfl
theorem test_report_long : (Instr.elementReport 1 (List.replicate 81 ⟨0, 1⟩)).wellFormed = false := rfl
theorem test_sweep_end_address : (Instr.sweepEnd 0 1 0 0).wellFormed = false := rfl
theorem test_pass_long : (Instr.passThrough ⟨0, 1, List.replicate 241 0⟩).wellFormed = false := rfl
theorem test_pass_station : (Instr.passThrough ⟨2, 63, []⟩).wellFormed = false := rfl
theorem test_misaddressed_surface : (Instr.misaddressed .surface ⟨1, 62, []⟩).wellFormed = false := rfl
theorem test_misaddressed_console : (Instr.misaddressed .console ⟨8, 63, []⟩).wellFormed = false := rfl
theorem test_request_long : (Instr.request 0 1 (List.replicate 239 0)).wellFormed = false := rfl
theorem test_done_lane : (Instr.serviceDone 8).wellFormed = false := rfl
theorem test_indicator_address : (Instr.indicator 63 0 0).wellFormed = false := rfl
theorem test_indicator_number : (Instr.indicator 0 64 0).wellFormed = false := rfl
theorem test_indicator_mode : (Instr.indicator 0 0 4).wellFormed = false := rfl
theorem test_pace_value : (Instr.pace 2).wellFormed = false := rfl
theorem test_forwarded_indicator : (Instr.forwardedFrame ⟨5, 1, [0, 0]⟩).wellFormed = false := rfl
theorem test_forwarded_pace : (Instr.forwardedFrame ⟨6, 0, [0]⟩).wellFormed = false := rfl
theorem test_forwarded_own : (Instr.forwardedFrame ⟨7, 63, []⟩).wellFormed = false := rfl
theorem test_element_params : (Instr.writeElement 0 0 1 1 (List.replicate 235 0)).wellFormed = false := rfl
theorem test_watchdog_address : (Instr.watchdogExpiry 0).wellFormed = false := rfl
theorem test_repeat_index : (Instr.repeatTimerExpiry 1024).wellFormed = false := rfl
theorem test_pace_index : (Instr.paceTimerExpiry 1024).wellFormed = false := rfl

/-! ## Small states -/

/-- The state a command leaves; the state itself where there is none. -/
def after (c : Instr) (s : State) : State :=
  match exec c s with
  | .next t => t
  | .fault _ => s
  | .refused _ => s

/-- Module 1 maps elements 0 to 3 and is in the given state. -/
def mapped (st : ModuleState) (w : Timer) (sweep : OpenSweep) : State :=
  State.blank.setModule 0 { Module.idle ⟨true, 0, 4⟩ with state := st, watchdog := w, sweep := sweep }

/-- The entries of the four elements. -/
def keyEntry : KeyParams := ⟨1, 1, .both, some 0, some 5, .follow⟩
/-- An encoder of Fine resolution with a coalesce limit of 2. -/
def encoderEntry : EncoderParams := ⟨.fine, false, 2, 0, 2⟩
/-- A level with deadband 4, pace 20 and marks at 100 and 900. -/
def levelEntry : LevelParams := ⟨4, 20, 100, 900, true⟩

/-- Module 1 with a key, an encoder, a level and a Raw element. -/
def panel (st : ModuleState) (w : Timer) (k : KeyCtx) (e : EncoderCtx) (l : LevelCtx) (sweep : OpenSweep) : State :=
  { mapped st w sweep with
    elements := [(0, ⟨1, .key keyEntry k⟩), (1, ⟨2, .encoder encoderEntry e⟩), (2, ⟨3, .level levelEntry l⟩),
      (3, ⟨4, .raw none⟩)] }

/-- The panel with idle contexts. -/
def calm (st : ModuleState) : State := panel st none .idle .idle .idle .empty

/-- A closed key whose repeat timer reads `t`. -/
def held (t : Timer) : KeyCtx := { KeyCtx.idle with closed := true, rawClosed := true, timer := t }

/-- A full sweep of the four elements. -/
def full : OpenSweep := ⟨[⟨0, 1⟩, ⟨1, 2⟩, ⟨2, 500⟩, ⟨3, 7⟩], false, 4⟩

/-- An untaken notice of the given kind of an element of the panel. -/
def waiting (k : NoticeKind) (l : Fin 8) (n : Nat) (v : Int) : Notice := ⟨k, l, 1, n, v, none, {}, some n⟩

/-- `s` with the given notices on a lane. -/
def queued (l : Fin 8) (ns : List Notice) (s : State) : State := s.setLane l { s.lane l with fifo := ns }

/-- A frame of the outbound queue. -/
def out (forwarded : Bool) : OutFrame := ⟨⟨7, 1, []⟩, forwarded⟩

/-! ## Single steps -/

theorem test_characters_of_the_check : frameBytes ⟨1, 2, [3]⟩ = [1, 2, 1, 3] ++ natBytes (check [1, 2, 1, 3]).toNat := by
  decide +kernel

theorem test_bits_of_a_character : characterBits 0x35 true =
    [.start, .data true, .data false, .data true, .data false, .data true, .data true, .data false, .data false,
      .data true, .stop] := by decide

theorem test_notice_on_the_line : (ConsoleFrame.notice ⟨.turn, 3, 7, 2, -2, none, { lost := true }, some 9⟩).frame =
    ⟨3, 63, [5, 3, 7, 2, 255, 254, 0, 4]⟩ := by decide

theorem test_capture_entry_bytes : (CaptureEntry.report 61 63 0x1234).bytes = [0, 62, 63, 0x12, 0x34] := by decide

theorem test_pause_out : ({ State.blank with outbound := List.replicate 24 ⟨⟨7, 1, []⟩, true⟩ } : State).pauseOut = false ∧
    ({ State.blank with outbound := List.replicate 25 ⟨⟨7, 1, []⟩, true⟩ } : State).pauseOut = true := by decide

theorem test_due_expiries : (panel .active (some 0) (held (some 0)) .idle ⟨7, some 3, some 7, some 0, .mid, false⟩ .empty).dueExpiries =
    [.watchdogExpiry 1, .repeatTimerExpiry 0, .paceTimerExpiry 2] := by decide +kernel

theorem test_bits_of_a_frame : (frameBits ⟨7, 1, []⟩).length = 55 ∧ (frameBits ⟨7, 1, []⟩)[9]? = some (.data true) ∧
    (frameBits ⟨7, 1, []⟩)[20]? = some (.data false) ∧ (frameBits ⟨7, 1, []⟩)[54]? = some .stop := by decide +kernel

theorem test_resting_lines :
    ({ State.blank with detector := .broken } : State).surfaceTxRest = .spacing ∧
    ({ State.blank with detector := .broken } : State).consoleTxRest = .marking ∧
    ({ State.blank with powerReset := true } : State).surfaceTxRest = .marking ∧
    State.reset.surfaceTxRest = .marking := by decide

theorem test_tick_counts : (after (.tick .marking) (panel .active (some 250) .idle .idle .idle .empty)).module 0 =
    { (panel .active (some 250) .idle .idle .idle .empty).module 0 with watchdog := some 249 } := by decide +kernel

theorem test_tick_sees_spacing : (after (.tick .spacing) .blank).detector = .spacingSeen := by decide +kernel

theorem test_report_stored : ((after (.elementReport 1 [⟨2, 500⟩, ⟨4, 0⟩]) (calm .active)).module 0).sweep =
    ⟨[⟨2, 500⟩], false, 2⟩ ∧ (after (.elementReport 1 [⟨2, 500⟩, ⟨4, 0⟩]) (calm .active)).counters.rangeErrors = 1 := by
  decide +kernel

theorem test_join : ((after (.sweepEnd 1 9 4 1) (panel .waiting none .idle .idle .idle full)).module 0).state = .active ∧
    ((after (.sweepEnd 1 9 4 1) (panel .waiting none .idle .idle .idle full)).module 0).watchdog = some 250 := by
  decide +kernel

theorem test_join_notice : (after (.sweepEnd 1 9 4 1) (panel .waiting none .idle .idle .idle full)).consoleTx =
    some (.notice ⟨.moduleJoined, 0, 1, 0, 4, none, {}, none⟩) := by decide +kernel

theorem test_join_baselines :
    (((after (.sweepEnd 1 9 4 1) (panel .waiting none .idle .idle .idle full)).lane 1).fifo =
      [⟨.press, 1, 1, 0, 0, none, { baseline := true }, some 0⟩]) ∧
    (((after (.sweepEnd 1 9 4 1) (panel .waiting none .idle .idle .idle full)).lane 3).fifo =
      [⟨.level, 3, 1, 2, 500, some .mid, { baseline := true }, some 2⟩]) := by decide +kernel

theorem test_echo_of_a_join : (after (.sweepEnd 1 9 4 1) (panel .waiting none .idle .idle .idle full)).outbound =
    [⟨⟨5, 1, [5, 1]⟩, false⟩] := by decide +kernel

theorem test_pass_through : (after (.passThrough ⟨0, 9, [1]⟩) .blank).consoleTx = some (.pass ⟨0, 9, [1]⟩) := by
  decide +kernel

theorem test_malformed : (after (.malformedFrame .console) .blank).counters.consoleErrors = 1 := by decide +kernel

theorem test_misaddressed : (after (.misaddressed .console ⟨3, 63, []⟩) .blank).counters.misaddressed = 1 := by
  decide +kernel

theorem test_request_unknown : (after (.request 7 16 []) .blank).consoleTx =
    some (.reply ⟨7, 16, .refused .badRequest⟩) := by decide +kernel

theorem test_service_done : (after (.serviceDone 2) { State.blank with stack := [1, 2, 3] }).stack = [1, 3] := by
  decide +kernel

theorem test_service_done_late : (after (.serviceDone 2) .blank).consoleTx =
    some (.notice ⟨.serviceFault, 0, 0, 2, 2, none, {}, none⟩) := by decide +kernel

theorem test_indicator_watched : (after (.indicator 0 5 2) (calm .active)).element 0 =
    ⟨1, .key keyEntry { KeyCtx.idle with echoBit := true }⟩ := by decide +kernel

theorem test_pace_watched : (after (.pace 1) (panel .active (some 9) .idle .idle .idle .empty)).chainPace = .slow ∧
    ((after (.pace 1) (panel .active (some 9) .idle .idle .idle .empty)).module 0).watchdog = some 3000 := by
  decide +kernel

theorem test_forwarded : (after (.forwardedFrame ⟨0, 4, [9]⟩) .blank).outbound = [⟨⟨0, 4, [9]⟩, true⟩] := by
  decide +kernel

theorem test_read_settings : (after (.readSettings 1) .blank).consoleTx =
    some (.reply ⟨1, 2, .done [0, 250, 11, 184, 40, 7, 8]⟩) := by decide +kernel

theorem test_write_settings : (after (.writeSettings 1 10 100 0 0 32) .blank).settings = ⟨10, 100, 0, 0, 32⟩ := by
  decide +kernel

theorem test_read_module : (after (.readModule 1 1) (calm .active)).consoleTx =
    some (.reply ⟨1, 4, .done [1, 0, 0, 4, 2, 0, 0, 0, 0, 0, 0, 0, 0, 0]⟩) := by decide +kernel

theorem test_write_module : ((after (.writeModule 1 62 1 1023 1) .blank).module 61).entry = ⟨true, 1023, 1⟩ ∧
    ((after (.writeModule 1 62 1 1023 1) .blank).module 61).state = .waiting := by decide +kernel

theorem test_read_element : (after (.readElement 1 1) (calm .active)).consoleTx =
    some (.reply ⟨1, 6, .done [0, 0, 0, 0, 0, 0, 1, 2, 2, 0, 0, 2, 0, 2]⟩) := by decide +kernel

theorem test_write_element : (after (.writeElement 1 1023 4 7 []) .blank).element 1023 = ⟨7, .raw none⟩ := by
  decide +kernel

theorem test_read_lane : (after (.readLane 1 3) .blank).consoleTx =
    some (.reply ⟨1, 8, .done [3, 0, 0, 0, 16, 0, 0]⟩) := by decide +kernel

theorem test_write_lane : ((after (.writeLane 1 7 0 1 1 1 128 513) .blank).lane 7).entry =
    ⟨0, true, .held, true, 128, 513⟩ := by decide +kernel

theorem test_read_profile : (after (.readProfile 1 7) .blank).consoleTx =
    some (.reply ⟨1, 10, .done [1, 144, 0, 80, 0]⟩) := by decide +kernel

theorem test_write_profile : (after (.writeProfile 1 0 1 1 255) .blank).profiles[0] = ⟨1, 1, 255⟩ := by decide +kernel

theorem test_counters_cleared :
    (after (.readCounters 1 1) { State.blank with counters := ⟨1, 2, 3, 4, 5, 6, 7, 8⟩ }).counters = .zero := by
  decide +kernel

theorem test_cold : (after (.coldRequest 1) .blank).consoleTx =
    some (.notice ⟨.restarted, 0, 0, 0, 2, none, {}, none⟩) := by decide +kernel

theorem test_warm : (after (.warmRequest 1) (calm .active)).outbound =
    [⟨⟨6, 0, [0]⟩, false⟩, ⟨⟨7, 1, []⟩, false⟩] := by decide +kernel

theorem test_capture_control : (after (.captureControl 1 1 62 0) .blank).capture = ⟨[], [], true, some 61, 0⟩ := by
  decide +kernel

theorem test_capture_read : (after (.captureRead 1 16)
    { State.blank with capture := ⟨[.sweep 0 5 .joined], [], true, none, 0⟩ }).consoleTx =
    some (.reply ⟨1, 15, .done [1, 1, 1, 5, 7, 0]⟩) := by decide +kernel

theorem test_flush_begins : (after (.writeModule 1 1 0 0 1) (panel .active (some 9) (held none) .idle .idle .empty)).head =
    .ready ∧ ((after (.writeModule 1 1 0 0 1) (panel .active (some 9) (held none) .idle .idle .empty)).module 0).state =
    .unmapped := by decide +kernel

theorem test_console_sent : (after .consoleFrameSent .reset).consoleTx = none := by decide +kernel

theorem test_surface_sent :
    (after .surfaceFrameSent { State.blank with outbound := [out true], surfaceSending := true, paceOwed := true }).outbound =
    [⟨⟨6, 0, [0]⟩, false⟩] := by decide +kernel

theorem test_break : (after .linkBreak (calm .active)).detector = .broken := by decide +kernel

theorem test_break_end : (after .linkBreakEnd { State.blank with detector := .broken }).consoleTx =
    some (.notice ⟨.restarted, 0, 0, 0, 4, none, {}, none⟩) := by decide +kernel

theorem test_power_on : after .powerOnResetRelease (after .powerOnReset (calm .active)) = State.reset := by
  decide +kernel

theorem test_watchdog : (after (.watchdogExpiry 1) (panel .active (some 0) (held none) .idle .idle .empty)).consoleTx =
    some (.notice ⟨.moduleLost, 0, 1, 0, 0, none, {}, none⟩) := by decide +kernel

theorem test_repeat : (after (.repeatTimerExpiry 0) (panel .active none (held (some 0)) .idle .idle .empty)).consoleTx =
    some (.notice ⟨.repeat_, 1, 1, 0, 1, none, {}, some 0⟩) := by decide +kernel

theorem test_pace_expiry :
    (after (.paceTimerExpiry 2) (panel .active none .idle .idle ⟨7, some 3, some 7, some 0, .mid, false⟩ .empty)).element 2 =
    ⟨3, .level levelEntry ⟨7, some 7, none, some 20, .mid, false⟩⟩ := by decide +kernel

theorem test_service_expiry :
    (after (.serviceTimerExpiry 2) ({ State.blank with stack := [2] }.setLane 2
      { State.blank.lane 2 with timer := some 0 })).stack = [] := by decide +kernel

theorem test_character : (after (.characterEvent .surface (.start 1)) .blank).surfaceFramer = .address 1 := by
  decide +kernel

/-! ## Witnesses: a state and operands that meet the hypotheses of each clause of a statement -/

theorem test_witness_CommandsAnswerAndKeepQueue : State.reset.pending = [] := rfl

/-- A framer in Body with no payload and one check byte in hand. -/
def lastByte : State := { State.blank with surfaceFramer := .body 1 2 0 [7] }

theorem test_witness_FramerFollowsItsTable :
    State.blank.holding = false ∧ State.blank.framer .surface = .hunting ∧ lastByte.holding = false ∧
    lastByte.framer .surface ≠ .hunting ∧
    (State.setFramer .console (.address 1) .blank).framer .console = .address 1 ∧
    (State.setFramer .console (.length 1 2) .blank).framer .console = .length 1 2 ∧
    (State.setFramer .console (.body 1 2 240 []) .blank).framer .console = .body 1 2 240 [] ∧
    ([] : List Byte).length + 1 < (240 : Byte).toNat + 2 ∧ lastByte.framer .surface = .body 1 2 0 ([] ++ [7]) ∧
    ([] : List Byte).length = (0 : Byte).toNat := by decide +kernel

theorem test_witness_CharactersMakeTheFrame :
    State.blank.holding = false ∧ State.blank.surfaceFramer = .hunting ∧ State.blank.consoleFramer = .hunting ∧ (⟨8, 63, List.replicate 240 0⟩ : Frame).payload.length ≤ 240 := by decide +kernel

theorem test_witness_HeldBlockIgnoresItsLines :
    (Instr.serviceDone 0).isReceived = true ∧ ({ State.blank with detector := .broken } : State).holding = true ∧
    ({ State.blank with powerReset := true } : State).holding = true := by decide

theorem test_witness_DiscardedFramesAreCounted :
    State.blank.holding = false ∧ (⟨1, 63, []⟩ : Frame).isMisaddressed .surface = true ∧
    (⟨2, 0, []⟩ : Frame).isMisaddressed .surface = true ∧ (⟨3, 63, []⟩ : Frame).isMisaddressed .console = true := by
  decide

theorem test_witness_DiscardedFramesAreCounted_fit :
    (⟨1, 1, []⟩ : Frame).misfitsSurface ∧ (⟨1, 1, List.replicate 239 0⟩ : Frame).misfitsSurface ∧
    ¬ (⟨1, 1, List.replicate 240 0⟩ : Frame).misfitsSurface ∧ (⟨2, 1, [0, 0]⟩ : Frame).misfitsSurface ∧
    ¬ (⟨2, 1, [0, 0, 0]⟩ : Frame).misfitsSurface ∧ moduleOf 1 = some 0 ∧ ((calm .active).module 0).entry.enabled = true ∧
    240 < (List.replicate 241 0 : List Byte).length ∧ (1 : BitVec 6) ≠ 63 ∧ 63 < (64 : Byte).toNat ∧ 3 < (4 : Byte).toNat ∧ 1 < (2 : Byte).toNat := by
  unfold Frame.misfitsSurface
  decide +kernel

theorem test_witness_DiscardedFramesAreCounted_bytes :
    (⟨8, 63, [0]⟩ : Frame).misfitsConsole ∧ (⟨9, 63, [8]⟩ : Frame).misfitsConsole ∧ (⟨5, 0, [64, 0]⟩ : Frame).misfitsConsole ∧
    (⟨6, 0, [2]⟩ : Frame).misfitsConsole := by
  refine ⟨.inl ⟨rfl, rfl, by decide⟩, .inr (.inl ⟨rfl, rfl, ?_⟩), .inr (.inr (.inl ⟨rfl, by decide, ?_⟩)), .inr (.inr (.inr ⟨rfl, rfl, ?_⟩))⟩
  · rintro ⟨l, h, hl⟩; cases h; revert hl; decide
  · rintro ⟨n, m, h, hn, -⟩; cases h; revert hn; decide
  · rintro ⟨p, h, hp⟩; cases h; revert hp; decide

theorem test_witness_CarriedFramesAreQueuedOrDropped :
    State.blank.holding = false ∧ (⟨0, 63, List.replicate 240 0⟩ : Frame).payload.length ≤ 240 ∧
    ((⟨0, 63, []⟩ : Frame).kind ≠ 1 ∧ (⟨0, 63, []⟩ : Frame).kind ≠ 2) ∧
    (∃ m, moduleOf (⟨1, 62, []⟩ : Frame).addr = some m ∧ (State.blank.module m).entry.enabled = false) ∧
    (⟨6, 62, []⟩ : Frame).isForwarded = true ∧ (⟨7, 0, List.replicate 240 0⟩ : Frame).isForwarded = true := by
  decide +kernel

/-- The outbound queue with `n` forwarded frames and `k` others. -/
def loaded (n k : Nat) (s : State) : State := { s with outbound := List.replicate n (out true) ++ List.replicate k (out false) }

theorem test_witness_ConsoleIndicatorIsWatched :
    (calm .active).holding = false ∧ (0 : BitVec 6) ≠ 63 ∧ (63 : Byte).toNat ≤ 63 ∧ (3 : Byte).toNat ≤ 3 ∧
    28 ≤ (loaded 28 0 (calm .active)).forwardedCount ∧ 32 ≤ (loaded 0 32 (calm .active)).outbound.length ∧
    (loaded 27 4 (calm .active)).forwardedCount < 28 ∧ (loaded 27 4 (calm .active)).outbound.length < 32 ∧
    ((loaded 27 4 (calm .active)).element 0).control = .key keyEntry .idle ∧
    (∃ k, keyEntry.echo = some k ∧ k.val = (5 : Byte).toNat) ∧ (loaded 27 4 (calm .active)).bound 0 = some 0 ∧
    (1 : BitVec 6).toNat = (0 : ModuleIx).val + 1 ∧ (none : Option Nat) ≠ some 0 := by
  decide +kernel

theorem test_witness_ConsolePaceIsWatched :
    State.blank.holding = false ∧ (1 : Byte).toNat ≤ 1 ∧ 28 ≤ (loaded 28 0 .blank).forwardedCount ∧
    32 ≤ (loaded 0 32 .blank).outbound.length ∧ (loaded 27 4 .blank).forwardedCount < 28 ∧
    (loaded 27 4 .blank).outbound.length < 32 := by decide +kernel

/-- `n` requests in the request queue, the first of them waiting for a slot of the reply queue. -/
def busy (n : Nat) : State :=
  { State.blank with
    requests := List.replicate n ⟨1, 1, [], false⟩, head := .awaitingSlot ⟨1, 1, .done []⟩,
    replies := List.replicate 4 ⟨1, 1, .done []⟩, pauseIn := true }

theorem test_witness_RequestJoinsTheQueue :
    (busy 3).holding = false ∧ (List.replicate 238 0 : List Byte).length ≤ 238 ∧ (busy 3).requests.length < 4 ∧
    ¬ ((13 : Byte) = 13 ∧ (([2] : List Byte) = [0] ∨ ([2] : List Byte) = [1])) ∧ 4 ≤ (busy 4).requests.length ∧
    1 ≤ ((busy 3).lane 0).entry.quota := by decide +kernel

/-- Every statement about a request that finds the management unit idle. -/
theorem test_witness_managementIdle : State.blank.managementIdle ∧ (calm .active).managementIdle :=
  ⟨⟨rfl, rfl, rfl, by decide⟩, ⟨rfl, rfl, rfl, by decide⟩⟩

/-- A Read Status that waited stands at the head; `n` replies wait. -/
def statusWaits (n : Nat) : State := { State.blank with
  requests := [⟨1, 1, [], true⟩], replies := List.replicate n ⟨1, 1, .done []⟩ }

theorem test_witness_ReadStatusAnswers :
    State.blank.managementIdle ∧ (statusWaits 3).holding = false ∧ (statusWaits 3).head = .ready ∧
    (statusWaits 3).requests = ⟨1, 1, [], true⟩ :: [] ∧ (statusWaits 3).replies.length < 4 ∧
    4 ≤ (statusWaits 4).replies.length :=
  ⟨test_witness_managementIdle.1, by decide⟩

theorem test_witness_SettingsAndProfilesAreReadAndWritten :
    State.blank.managementIdle ∧ (∃ k : Fin 8, (7 : Byte).toNat = k.val) ∧ 7 < (8 : Byte).toNat :=
  ⟨test_witness_managementIdle.1, ⟨7, rfl⟩, by decide⟩

theorem test_witness_LanesAreReadAndWritten :
    State.blank.managementIdle ∧ (∃ k : Fin 8, (0 : Byte).toNat = k.val) ∧ 7 < (8 : Byte).toNat :=
  ⟨test_witness_managementIdle.1, ⟨0, rfl⟩, by decide⟩

theorem test_witness_ModuleRequestsAreChecked :
    State.blank.managementIdle ∧ (∃ m : ModuleIx, (62 : Byte).toNat = m.val + 1) ∧ 62 < (63 : Byte).toNat ∧
    1024 < (1023 : Word).toNat + (2 : Byte).toNat ∧ (1023 : Word).toNat + (1 : Byte).toNat ≤ 1024 ∧
    (∃ k i, k ≠ (1 : ModuleIx) ∧ ((calm .active).module k).entry.enabled = true ∧ ((calm .active).module k).entry.base ≤ i ∧
      i < ((calm .active).module k).entry.base + ((calm .active).module k).entry.count ∧ (3 : Word).toNat ≤ i ∧
      i < (3 : Word).toNat + (1 : Byte).toNat) ∧
    (calm .active).overlaps 0 ⟨(1 : Byte) != 0, (0 : Word).toNat, (4 : Byte).toNat⟩ = false ∧
    ((calm .active).module 0).entry = ⟨(1 : Byte) != 0, (0 : Word).toNat, (4 : Byte).toNat⟩ ∧
    (calm .active).overlaps 1 ⟨true, 3, 1⟩ = true ∧ ∀ k, 1 ≤ ((calm .active).module k).entry.count :=
  ⟨test_witness_managementIdle.1, ⟨61, rfl⟩, by decide, by decide, by decide, ⟨0, 3, by decide +kernel⟩, by decide +kernel,
    by decide +kernel, by decide +kernel, by decide +kernel⟩

/-- The panel with its lamp lit under a module in the given state. -/
def lit (st : ModuleState) : State := panel st none { KeyCtx.idle with echoBit := true } .idle .idle .empty

theorem test_lamps_off : (lit .silent).lampsOff ⟨true, 1020, 4⟩ [] ((lit .silent).boundTo 0) = [5] := by decide +kernel

theorem test_witness_WriteModuleTakesEffectAtOnce :
    (calm .silent).managementIdle ∧ (1 : Byte).toNat = (0 : ModuleIx).val + 1 ∧
    (1020 : Word).toNat + (4 : Byte).toNat ≤ 1024 ∧ (calm .silent).overlaps 0 ⟨true, 1020, 4⟩ = false ∧
    ((calm .silent).module 0).entry ≠ ⟨true, 1020, 4⟩ ∧ ((calm .silent).module 0).state ≠ .active :=
  ⟨⟨rfl, rfl, rfl, by decide⟩, by decide, by decide, by decide +kernel, by decide +kernel, by decide +kernel⟩

theorem test_witness_WriteModuleBeginsAFlush :
    (calm .active).managementIdle ∧ (1 : Byte).toNat = (0 : ModuleIx).val + 1 ∧
    (1020 : Word).toNat + (4 : Byte).toNat ≤ 1024 ∧ (calm .active).overlaps 0 ⟨true, 1020, 4⟩ = false ∧
    ((calm .active).module 0).entry ≠ ⟨true, 1020, 4⟩ ∧ ((calm .active).module 0).state = .active ∧
    ((calm .active).element 0).control = .key keyEntry .idle ∧ KeyCtx.idle.echoBit = false ∧
    ((lit .active).element 0).control = .key keyEntry { KeyCtx.idle with echoBit := true } ∧ keyEntry.echo ≠ none ∧
    ((calm .active).element 1).control = .encoder encoderEntry .idle ∧
    ((calm .active).element 2).control = .level levelEntry .idle ∧ ((calm .active).element 3).control = .raw none ∧
    ((calm .active).element 4).control = .ignore :=
  ⟨test_witness_managementIdle.2, by decide +kernel⟩

theorem test_witness_ElementIsReadAndWrittenAtRest :
    (calm .silent).managementIdle ∧ (1023 : Word).toNat < 1024 ∧ 1023 < (1024 : Word).toNat ∧
    (7 : Byte).toNat = (7 : Fin 8).val ∧ controlOf (4 : Byte).toNat [] = some (.raw none) ∧
    (calm .silent).bound (1023 : Word).toNat = none ∧ (calm .silent).bound (3 : Word).toNat = some 0 ∧
    ((calm .silent).module 0).state ≠ .active ∧ 4 < (5 : Byte).toNat ∧ paramLength (3 : Byte).toNat = some 8 ∧
    (List.replicate 234 0 : List Byte).length ≠ 8 ∧ paramLength (2 : Byte).toNat = some ([0, 0, 0, 0, 2] : List Byte).length ∧
    controlOf (2 : Byte).toNat [0, 0, 0, 0, 2] = none ∧
    ((lit .silent).element 0).control = .key keyEntry { KeyCtx.idle with echoBit := true } ∧ keyEntry.echo = some 5 ∧
    (loaded 0 31 (lit .silent)).outbound.length < 32 ∧ 32 ≤ (loaded 0 32 (lit .silent)).outbound.length ∧
    ((calm .silent).element 0).control = .key keyEntry .idle ∧ KeyCtx.idle.echoBit = false :=
  ⟨⟨rfl, rfl, rfl, by decide⟩, by decide +kernel⟩

theorem test_witness_ElementIsReadAndWrittenAtRest_table :
    (calm .silent).tableOk ∧ (2, ⟨3, .level levelEntry .idle⟩) ∈ (calm .silent).elements ∧
    ((calm .silent).element 2).control = .level levelEntry .idle ∧
    (∀ p c, ((calm .silent).element 3).control ≠ .key p c) ∧ (∀ p c, ((calm .silent).element 3).control ≠ .level p c) ∧
    ∀ e, (4, e) ∉ (calm .silent).elements := by
  refine ⟨?_, by decide +kernel, rfl, fun p c h => (nomatch h), fun p c h => (nomatch h), fun e h => ?_⟩
  · unfold State.tableOk
    decide +kernel
  · simp [calm, panel] at h

theorem test_witness_WriteElementUnderActiveModule :
    (calm .active).managementIdle ∧ (0 : Word).toNat < 1024 ∧ (1 : Byte).toNat = (1 : Fin 8).val ∧
    controlOf (1 : Byte).toNat [15, 0, 2, 255, 63, 1] = some (.key ⟨15, 0, .toggle, none, some 63, .latch⟩ .idle) ∧
    controlOf (2 : Byte).toNat [2, 1, 127, 4, 8] = some (.encoder ⟨.coarse, true, 127, 4, 8⟩ .idle) ∧
    controlOf (3 : Byte).toNat [255, 3, 232, 0, 0, 3, 255, 0] = some (.level ⟨255, 1000, 0, 1023, false⟩ .idle) ∧
    controlOf (4 : Byte).toNat [] = some (.raw none) ∧ (calm .active).bound 0 = some 0 ∧ (calm .active).bound 3 = some 0 ∧
    ((calm .active).module 0).state = .active ∧ ((calm .active).element 0).lane = 1 ∧
    ((calm .active).element 1).control = .encoder encoderEntry .idle ∧
    ((calm .active).element 2).control = .level levelEntry .idle ∧
    ((calm .active).element 0).control = .key keyEntry .idle ∧ ((calm .active).element 3).control = .raw none ∧
    ((lit .active).element 0).control = .key keyEntry { KeyCtx.idle with echoBit := true } ∧ (lit .active).bound 0 = some 0 ∧
    { keyEntry with echo := none }.echo ≠ keyEntry.echo ∧ keyEntry.echo = some 5 ∧
    { keyEntry with echoMode := .latch }.echoMode ≠ keyEntry.echoMode ∧ (loaded 0 31 (lit .active)).outbound.length < 32 ∧
    32 ≤ (loaded 0 32 (lit .active)).outbound.length :=
  ⟨test_witness_managementIdle.2, by decide +kernel⟩

theorem test_witness_RecordsReadAsWritten :
    settingsOf 10000 60000 255 7 32 = some ⟨10000, 60000, 255, 7, 32⟩ ∧ profileOf 1 65535 0 = some ⟨1, 65535, 0⟩ ∧
    laneEntryOf 7 2 1 1 128 0 = some ⟨7, true, .held, true, 128, 0⟩ ∧ keyEntry.debounceDown ≤ 15 ∧
    keyEntry.debounceUp ≤ 15 ∧ 1 ≤ encoderEntry.limit ∧ encoderEntry.limit ≤ 127 ∧ encoderEntry.threshold ≤ 4 ∧
    2 ≤ encoderEntry.factor ∧ encoderEntry.factor ≤ 8 ∧ levelEntry.deadband ≤ 255 ∧ levelEntry.pace ≤ 1000 ∧
    levelEntry.low ≤ levelEntry.high ∧ levelEntry.high ≤ 1023 ∧
    controlOf 2 [2, 1, 127, 4, 8] = some (.encoder ⟨.coarse, true, 127, 4, 8⟩ .idle) ∧ (255 : Byte) ≠ 0 := by
  decide +kernel

theorem test_witness_CountersAreReadAndCleared : State.blank.managementIdle ∧ (2 : Byte) ≠ 0 :=
  ⟨test_witness_managementIdle.1, by decide⟩

theorem test_witness_RestartRequestsAreCarriedOut :
    (busy 3).holding = false ∧ (busy 3).requests.length < 4 ∧ (busy 3).pauseIn = true ∧ State.blank.pauseIn = false ∧
    State.blank.requests.length < 4 ∧ 1 ≤ (State.blank.lane 0).entry.quota := by decide +kernel

theorem test_witness_HeldRestartsCompleteOnRelease :
    (calm .active).holding = false ∧ 1 ≤ ((calm .active).lane 0).entry.quota ∧
    ({ State.blank with detector := .broken } : State).holding = true ∧ State.blank.powerReset = false ∧
    (calm .active).pauseIn = false ∧ (calm .active).consoleRx = .marking ∧ (calm .active).pending = [] := by decide +kernel

theorem test_witness_TickCountsAndWatchesTheLine :
    State.blank.powerReset = false ∧ (calm .active).noneDue ∧ (takeDue State.blank).detector = .clear ∧
    (takeDue { State.blank with detector := .spacingSeen }).detector = .spacingSeen ∧
    (takeDue { State.blank with detector := .broken }).detector = .broken ∧
    ({ State.blank with powerReset := true } : State).powerReset = true := by
  refine ⟨rfl, ⟨?_, ?_, ?_⟩, ?_⟩ <;> decide +kernel

theorem test_witness_SelectionsAreMade :
    State.blank.holding = false ∧ (busy 1).pauseIn = true ∧ State.reset.consoleTx ≠ none := by decide +kernel

theorem test_witness_ReportsReachTheOpenSweep :
    (calm .waiting).holding = false ∧ moduleOf 1 = some 0 ∧ ((calm .waiting).module 0).entry.enabled = true ∧
    1 ≤ (List.replicate 80 (⟨3, 1⟩ : ReportEntry)).length ∧ (List.replicate 80 (⟨3, 1⟩ : ReportEntry)).length ≤ 80 ∧
    ((calm .waiting).module 0).state = .waiting ∧ ((calm .draining).module 0).state = .draining ∧
    ((calm .waiting).module 0).entry.count ≤ (4 : Byte).toNat ∧ (3 : Byte).toNat < ((calm .waiting).module 0).entry.count ∧
    ((mapped .active none ⟨[], true, 256⟩).module 0).sweep.broken = true ∧ full.broken = false ∧
    (∃ y ∈ full.slots, y.element = (3 : Byte).toNat) ∧
    (∀ y ∈ ((calm .waiting).module 0).sweep.slots, y.element ≠ (3 : Byte).toNat) := by decide +kernel

/-- Module 1 Active with last applied sweep 4 and the given open sweep. -/
def applied (w : OpenSweep) : State := (mapped .active (some 1) w).setModule 0
  { (mapped .active (some 1) w).module 0 with lastApplied := some 4 }

theorem test_witness_RejectedSweepIsDiscarded :
    (applied full).holding = false ∧ moduleOf 1 = some 0 ∧ ((applied full).module 0).entry.enabled = true ∧
    ((applied full).module 0).state = .active ∧ ((applied full).module 0).lastApplied = some 4 ∧
    ((applied full).module 0).lastApplied ≠ some 5 ∧ ((applied ⟨[], true, 5⟩).module 0).sweep.broken = true ∧
    ((applied full).module 0).sweep.broken = false ∧ (3 : Byte).toNat ≠ ((applied full).module 0).sweep.received := by
  decide +kernel

theorem test_witness_AcceptedSweepIsApplied :
    (applied full).holding = false ∧ moduleOf 1 = some 0 ∧ ((applied full).module 0).entry.enabled = true ∧
    ((applied full).module 0).state = .active ∧ ((applied full).module 0).lastApplied ≠ some 5 ∧
    ((applied full).module 0).sweep.broken = false ∧ (4 : Byte).toNat = ((applied full).module 0).sweep.received ∧
    ((calm .active).element 0).control = .key keyEntry .idle ∧ (1 : Word).toNat ≤ 1 ∧ 1 < (2 : Word).toNat ∧
    ((calm .active).element 1).control = .encoder encoderEntry .idle ∧ (255 : Word).toNat ≤ 255 ∧
    255 < (256 : Word).toNat ∧ ((calm .active).element 2).control = .level levelEntry .idle ∧
    (1023 : Word).toNat ≤ 1023 ∧ 1023 < (1024 : Word).toNat ∧ ((calm .active).element 3).control = .raw none ∧
    (none : Option Word) ≠ some 7 ∧ (((calm .active).setControl 3 (.raw (some 7))).element 3).control = .raw (some 7) ∧
    ((calm .active).element 4).control = .ignore := by
  decide +kernel

theorem test_witness_SweepEndOutsideActiveIsRejected :
    (calm .waiting).holding = false ∧ moduleOf 1 = some 0 ∧ ((calm .waiting).module 0).entry.enabled = true ∧
    ((calm .waiting).module 0).state = .waiting ∧ (2 : Byte).getLsbD 0 = false ∧
    (∃ n < ((calm .waiting).module 0).entry.count, ∀ z ∈ ((calm .waiting).module 0).sweep.slots, z.element ≠ n) ∧
    ((calm .silent).module 0).state = .silent ∧ ((calm .draining).module 0).state = .draining := by decide +kernel

theorem test_witness_FullSweepJoinsTheModule :
    (mapped .waiting none full).holding = false ∧ moduleOf 1 = some 0 ∧
    ((mapped .waiting none full).module 0).entry.enabled = true ∧ ((mapped .waiting none full).module 0).state = .waiting ∧
    (1 : Byte).getLsbD 0 = true ∧ full.broken = false ∧ (4 : Byte).toNat = full.received ∧
    (∀ n < ((mapped .waiting none full).module 0).entry.count, ∃ z ∈ full.slots, z.element = n) := by decide +kernel

theorem test_witness_FullSweepJoinsTheModule_baseline :
    ((calm .active).element 0).control = .key keyEntry .idle ∧ 1 < (2 : Word).toNat ∧
    ((calm .active).element 1).control = .encoder encoderEntry .idle ∧ (255 : Word).toNat ≤ 255 ∧
    255 < (256 : Word).toNat ∧ ((calm .active).element 2).control = .level levelEntry .idle ∧
    (1023 : Word).toNat ≤ 1023 ∧ 1023 < (1024 : Word).toNat ∧ (calm .active).bound 2 = some 0 ∧
    (∀ l, ((calm .active).lane l).fifo = []) ∧
    (∃ l, ∃ n ∈ ((queued 3 [waiting .level 3 2 9] (calm .active)).lane l).fifo, n.index = some 2 ∧ n.kind = .level) ∧
    ((calm .active).element 3).control = .raw none ∧ ((calm .active).element 4).control = .ignore := by decide +kernel

theorem test_witness_WatchdogExpiryLosesTheModule :
    moduleOf 1 = some 0 ∧ ((mapped .active (some 0) .empty).module 0).state = .active ∧
    ((mapped .active (some 0) .empty).module 0).watchdog = some 0 ∧
    ((mapped .active (some 1) .empty).module 0).watchdog ≠ some 0 ∧
    ((calm .active).element 0).control = .key keyEntry .idle ∧ ((calm .active).element 1).control = .encoder encoderEntry .idle ∧
    ((calm .active).element 2).control = .level levelEntry .idle ∧ (∃ w, ((calm .active).element 3).control = .raw w) := by
  refine ⟨?_, ?_, ?_, ?_, ?_, ?_, ?_, none, ?_⟩ <;> decide +kernel

/-- The panel with a due pace timer and a held value. -/
def paced (h : Option Nat) : State := panel .active none .idle .idle ⟨7, some 3, h, some 0, .mid, false⟩ .empty

/-- The panel with an opening key whose repeat timer is due. -/
def opening : State := panel .active none { held (some 0) with rawClosed := false } .idle .idle .empty

theorem test_witness_ElementTimersExpire :
    (((panel .active none (held (some 0)) .idle .idle .empty).element 0).control = .key keyEntry (held (some 0)) ∧
      (held (some 0)).timer = some 0 ∧ (held (some 0)).closed = true ∧ (held (some 0)).rawClosed = true ∧
      keyEntry.profile = some 0) ∧
    ((opening.element 0).control = .key keyEntry { held (some 0) with rawClosed := false }) ∧
    ((calm .active).element 0).control.repeatTimer ≠ some 0 ∧
    ((paced none).element 2).control = .level levelEntry ⟨7, some 3, none, some 0, .mid, false⟩ ∧
    (queued 3 [waiting .level 3 2 9] (paced (some 7))).hasUntaken ((queued 3 [waiting .level 3 2 9] (paced (some 7))).isFor 2 .level) = true ∧
    (paced (some 7)).bound 2 = some 0 ∧ (paced (some 7)).hasUntaken ((paced (some 7)).isFor 2 .level) = false ∧
    (paced (some 7)).room 3 = true ∧
    (queued 3 (List.replicate 16 (waiting .zone 3 2 0)) (paced (some 7))).hasUntaken
      ((queued 3 (List.replicate 16 (waiting .zone 3 2 0)) (paced (some 7))).isFor 2 .level) = false ∧
    (queued 3 (List.replicate 16 (waiting .zone 3 2 0)) (paced (some 7))).room 3 = false ∧
    ((calm .active).element 2).control.paceTimer ≠ some 0 := by decide +kernel

theorem test_witness_ServiceTimerExpires :
    ((State.blank.setLane 2 { State.blank.lane 2 with timer := some 0 }).lane 2).timer = some 0 ∧
    (State.blank.lane 2).timer ≠ some 0 := by decide +kernel

theorem test_witness_KeyFollowsItsStates :
    ((calm .active).element 0).control = .key keyEntry .idle ∧ KeyCtx.idle.rawClosed = false ∧ KeyCtx.idle.closed ≠ true ∧
    (held none).closed = true ∧ (held none).rawClosed ≠ false ∧
    { KeyCtx.idle with rawClosed := true, settle := 1 }.rawClosed ≠ { KeyCtx.idle with rawClosed := true, settle := 1 }.closed ∧
    0 < { KeyCtx.idle with rawClosed := true, settle := 1 }.settle ∧
    ((panel .active none { KeyCtx.idle with rawClosed := true } .idle .idle .empty).element 0).control =
      .key keyEntry { KeyCtx.idle with rawClosed := true } ∧
    ((panel .active none { held none with rawClosed := false } .idle .idle .empty).element 0).control =
      .key keyEntry { held none with rawClosed := false } ∧
    KeyCtx.idle.closed = KeyCtx.idle.echoBit ∧ (held none).closed ≠ (held none).echoBit ∧ keyEntry.echo = some 5 ∧
    (calm .active).bound 0 = some 0 ∧ (loaded 0 31 (calm .active)).outbound.length < 32 ∧
    32 ≤ (loaded 0 32 (calm .active)).outbound.length ∧ keyEntry.profile = some 0 ∧
    { keyEntry with profile := none }.profile = none ∧
    ((calm .active).element 1).control = .encoder encoderEntry .idle := by decide +kernel

theorem test_witness_EncoderStepsBecomeTurns :
    stepOf EncoderCtx.idle.phase 3 = none ∧ stepOf EncoderCtx.idle.phase 0 = some 0 ∧
    stepOf EncoderCtx.idle.phase 1 = some 1 ∧ (1 : Int) ≠ 0 ∧ EncoderCtx.idle.sub + 1 = Resolution.fine.steps ∧
    stepOf EncoderCtx.idle.phase 2 = some (-1) ∧ EncoderCtx.idle.sub + -1 = -Resolution.fine.steps ∧
    EncoderCtx.idle.sub + 1 ≠ Resolution.half.steps ∧ EncoderCtx.idle.sub + 1 ≠ -Resolution.half.steps ∧
    -Resolution.coarse.steps < (3 : Int) ∧ (3 : Int) < Resolution.coarse.steps ∧
    ((calm .active).element 1).control = .encoder encoderEntry .idle ∧
    decodeSample .fine .idle 1 = ({ EncoderCtx.idle with phase := 1 }, 1) ∧
    decodeSamples .fine [3, 2] { EncoderCtx.idle with phase := 1 } = ({ EncoderCtx.idle with phase := 2 }, 2) ∧
    decodeSamples .fine [0, 1, 3, 2] .idle = ({ EncoderCtx.idle with phase := 2 }, 3) := by decide +kernel

/-- The panel with an encoder that owes a carry. -/
def owing : State := panel .active none .idle ⟨0, 0, 5, true, 0⟩ .idle .empty

/-- The panel with an untaken Turn of the given value. -/
def turned (v : Int) : State := queued 2 [waiting .turn 2 1 v] (calm .active)

theorem test_witness_TurnIsPlacedByItsCases :
    (owing.element 1).control = .encoder encoderEntry ⟨0, 0, 5, true, 0⟩ ∧ owing.bound 1 = some 0 ∧
    ((turned 1).element 1).control = .encoder encoderEntry .idle ∧ (turned 1).bound 1 = some 0 ∧
    (turned 1).findUntaken ((turned 1).isFor 1 .turn) = some (waiting .turn 2 1 1) ∧
    (-(encoderEntry.limit : Int) ≤ 1 + 1 ∧ (1 : Int) + 1 ≤ encoderEntry.limit) ∧ (encoderEntry.limit : Int) < 1 + 2 ∧
    (1 : Int) + -4 < -encoderEntry.limit ∧
    (turned 3).findUntaken ((turned 3).isFor 1 .turn) = some (waiting .turn 2 1 3) ∧ (encoderEntry.limit : Int) < 3 ∧
    (encoderEntry.limit : Int) < 3 + 1 ∧ (calm .active).findUntaken ((calm .active).isFor 1 .turn) = none ∧
    (calm .active).room ((calm .active).element 1).lane = true ∧
    (queued 2 (List.replicate 16 (waiting .raw 2 3 0)) (calm .active)).findUntaken
      ((queued 2 (List.replicate 16 (waiting .raw 2 3 0)) (calm .active)).isFor 1 .turn) = none ∧
    (queued 2 (List.replicate 16 (waiting .raw 2 3 0)) (calm .active)).room 2 = false := by decide +kernel

theorem test_witness_ZoneFollowsItsTable :
    ((calm .active).element 2).control = .level levelEntry .idle ∧ levelEntry.zones = true ∧ LevelCtx.idle.zone = .mid ∧
    99 < levelEntry.low ∧ levelEntry.low ≤ 100 ∧ 900 ≤ levelEntry.high ∧ levelEntry.high < 901 ∧
    levelEntry.low + levelEntry.deadband ≤ 104 ∧ (896 : Int) ≤ (levelEntry.high : Int) - levelEntry.deadband := by
  decide +kernel

/-- The panel with a level last given at 100 and the given pace timer. -/
def given (t : Timer) : State := panel .active none .idle .idle ⟨100, some 100, none, t, .mid, false⟩ .empty

theorem test_witness_ZoneFollowsItsTable_value :
    ((given none).element 2).control = .level levelEntry ⟨100, some 100, none, none, .mid, false⟩ ∧
    ((updateZone 2 104 ((given none).setControl 2 (.level levelEntry ⟨104, some 100, none, none, .mid, false⟩))).element
      2).control = .level levelEntry ⟨104, some 100, none, none, .mid, false⟩ ∧
    (103 : Int) - 100 < levelEntry.deadband ∧ (100 : Int) - 103 < levelEntry.deadband ∧
    (levelEntry.deadband : Int) ≤ 104 - 100 ∧
    ((given (some 3)).element 2).control = .level levelEntry ⟨100, some 100, none, some 3, .mid, false⟩ ∧
    (given none).bound 2 = some 0 ∧ (given none).room 3 = true ∧
    (queued 3 (List.replicate 16 (waiting .zone 3 2 0)) (given none)).room 3 = false := by decide +kernel

theorem test_witness_EnqueueOrItsConsequence :
    (waiting .press 1 0 0).index = some 0 ∧
    ((calm .active).lane 1).fifo.length < ((calm .active).lane 1).entry.quota ∧
    (calm .active).queued + (calm .active).noticeInFlight < 128 ∧
    ((queued 1 (List.replicate 16 (waiting .raw 1 0 0)) (calm .active)).lane 1).entry.quota ≤
      ((queued 1 (List.replicate 16 (waiting .raw 1 0 0)) (calm .active)).lane 1).fifo.length ∧
    128 ≤ (queued 1 (List.replicate 128 (waiting .raw 1 0 0)) (calm .active)).queued ∧
    ((calm .active).element 0).control = .key keyEntry .idle ∧ keyEntry.mode = .both ∧
    ((calm .active).element 2).control = .level levelEntry .idle ∧ (calm .active).bound 4 = none ∧
    (calm .active).bound 0 = some 0 := by decide +kernel

theorem test_witness_EnqueueOrItsConsequence_slots :
    State.reset.consoleTx = some (.notice (.restarted 1)) ∧ ∀ n, State.blank.consoleTx ≠ some (.notice n) :=
  ⟨rfl, fun _ h => nomatch h⟩

theorem test_witness_EnqueueOrItsConsequence_system :
    (systemNotice .serviceOverdue 0 3 0).kind = .serviceOverdue ∧ (systemNotice .serviceOverdue 0 3 0).index = none ∧
    ((queued 0 (List.replicate 16 (.restarted 1)) .blank).lane (systemNotice .serviceOverdue 0 3 0).lane).entry.quota ≤
      ((queued 0 (List.replicate 16 (.restarted 1)) .blank).lane (systemNotice .serviceOverdue 0 3 0).lane).fifo.length ∧
    (notify (systemNotice .serviceOverdue 0 3 0) (queued 0 (List.replicate 16 (.restarted 1)) .blank)).systemLost = 1 := by
  decide +kernel

theorem test_witness_ServiceStatesTheCondition :
    (calm .draining).bound 0 = some 0 ∧ ((calm .draining).element 0).control = .key keyEntry .idle ∧
    keyEntry.mode = .both ∧ (calm .draining).bound 2 = some 0 ∧
    ((calm .draining).element 2).control = .level levelEntry .idle ∧ owing.bound 1 = some 0 ∧
    (owing.element 1).control = .encoder encoderEntry ⟨0, 0, 5, true, 0⟩ ∧ (5 : Int) ≠ 0 ∧
    ((calm .active).element 1).control = .encoder encoderEntry .idle ∧ EncoderCtx.idle.carry = 0 ∧
    ((calm .active).setControl 0 (.key { keyEntry with mode := .toggle } .idle)).bound 0 = some 0 := by decide +kernel

theorem test_witness_ServiceStatesTheCondition_pass :
    ({ State.blank with systemLost := 255 } : State).room 0 = true ∧ State.blank.systemLost = 0 ∧
    (queued 0 (List.replicate 16 (.restarted 1)) .blank).room 0 = false ∧ owing.tableOk ∧ 1 ∈ owing.owedOn 2 ∧
    128 ≤ (queued 1 (List.replicate 128 (waiting .raw 1 0 0)) owing).queued ∧
    owing.queued + owing.noticeInFlight < 128 ∧ owing.serviceBlocked 1 = false ∧ owing.room 2 = true ∧
    (queued 2 [waiting .turn 2 1 1] owing).serviceBlocked 1 = true ∧
    (queued 2 (List.replicate 16 (waiting .raw 2 3 0)) owing).serviceBlocked 1 = false ∧
    (queued 2 (List.replicate 16 (waiting .raw 2 3 0)) owing).room 2 = false ∧
    (((calm .active).setControl 0 (.key { keyEntry with mode := .pressOnly } .idle)).element 0).control =
      .key { keyEntry with mode := .pressOnly } .idle := by
  unfold State.tableOk
  decide +kernel

theorem test_witness_OnlyEligibleLanesAreTaken :
    (3 : Fin 8) ∈ ({ State.blank with stack := [3] } : State).stack ∧
    ∃ t n, selectStep (turned 1) = some t ∧ t.consoleTx = some (.notice n) :=
  ⟨by decide, takeChoice (.notice 2) (turned 1), waiting .turn 2 1 1, by decide +kernel, by decide +kernel⟩

theorem test_witness_OfferIsTheBestEligibleLane : (turned 1).offer = some 2 ∧ State.blank.offer = none := by
  decide +kernel

/-- A pass-through frame waits beside an untaken Turn; the burst count is as given. -/
def bursting (n : Nat) : State := { turned 1 with passQueue := [⟨0, 1, []⟩], burst := n }

theorem test_witness_SelectionFollowsItsSteps :
    State.blank.consoleTx = none ∧ State.blank.pauseIn = false ∧
    ({ State.blank with replies := [⟨1, 1, .done []⟩] } : State).replies = [⟨1, 1, .done []⟩] ∧
    (bursting 7).replies = [] ∧ (bursting 7).offer = some 2 ∧
    ¬ ((bursting 7).settings.burst ≤ (bursting 7).burst ∧ (bursting 7).passQueue ≠ [] ∧ (bursting 7).bulkHold = false) ∧
    (bursting 8).passQueue = [⟨0, 1, []⟩] ∧ (bursting 8).bulkHold = false ∧
    (bursting 8).settings.burst ≤ (bursting 8).burst ∧ State.blank.offer = none ∧ State.blank.passQueue = [] ∧
    ({ State.blank.setLane 2 { State.blank.lane 2 with entry := ⟨2, false, .held, true, 16, 0⟩ } with
      stack := [2] } : State).bulkHold = true := by
  decide +kernel

theorem test_witness_TakeOfANotice : ((turned 1).lane 2).fifo = waiting .turn 2 1 1 :: [] := by decide +kernel

theorem test_witness_ConsoleFrameEnds :
    State.reset.consoleTx = some (.notice (.restarted 1)) ∧ State.blank.consoleTx = none ∧
    ({ State.blank with consoleTx := some (.reply ⟨1, 1, .done []⟩) } : State).consoleTx = some (.reply ⟨1, 1, .done []⟩) ∧
    ({ State.blank with consoleTx := some (.pass ⟨0, 1, []⟩) } : State).consoleTx = some (.pass ⟨0, 1, []⟩) := by
  decide +kernel

theorem test_witness_ServiceDoneIsAnswered :
    State.blank.holding = false ∧ (7 : Byte).toNat = (7 : Fin 8).val ∧
    (7 : Fin 8) ∈ ({ State.blank with stack := [7] } : State).stack ∧ (7 : Fin 8) ∉ State.blank.stack ∧
    ((State.blank.setLane 7 { State.blank.lane 7 with overdue := true }).lane 7).overdue = true ∧
    (State.blank.lane 7).overdue = false ∧ 7 < (8 : Byte).toNat := by decide +kernel

/-- The panel with `n` frames in the outbound queue and its key's echo owed. -/
def echoOwed (n : Nat) : State := loaded 0 n (panel .active none { KeyCtx.idle with echoPending := true } .idle .idle .empty)

theorem test_witness_SurfaceFrameIsSentAndOwedFollow_echo :
    (echoOwed 31).outbound.length < 32 ∧ 32 ≤ (echoOwed 32).outbound.length ∧ (echoOwed 31).tableOk ∧
    (echoOwed 31).paceOwed = false ∧ (∀ m, ((echoOwed 31).module m).resyncOwed = false) ∧
    ((echoOwed 31).element 0).control = .key keyEntry { KeyCtx.idle with echoPending := true } ∧
    keyEntry.echo = some 5 ∧ (echoOwed 31).bound 0 = some 0 ∧
    (owedPass (echoOwed 31)).outbound.getLast? = some ⟨⟨5, 1, [5, 0]⟩, false⟩ := by
  unfold State.tableOk
  decide +kernel

theorem test_witness_SurfaceFrameIsSentAndOwedFollow :
    (loaded 1 0 .blank).holding = false ∧ (loaded 1 0 .blank).surfaceSending = false ∧ (loaded 1 0 .blank).outbound ≠ [] ∧
    ({ loaded 1 0 .blank with surfaceSending := true } : State).surfaceSending = true ∧ State.blank.outbound = [] ∧
    (loaded 0 31 .blank).outbound.length = 31 ∧ ({ loaded 0 31 .blank with paceOwed := true } : State).paceOwed = true ∧
    (((loaded 0 31 .blank).setModule 4 { State.blank.module 4 with resyncOwed := true }).module 4).resyncOwed = true ∧
    (∀ k < (4 : ModuleIx), (((loaded 0 31 .blank).setModule 4 { State.blank.module 4 with resyncOwed := true }).module
      k).resyncOwed = false) := by decide +kernel

/-- Module 1 Active, its sweeps empty for `n` sweeps. -/
def quiet (n : Nat) : State := (mapped .active none .empty).setModule 0
  { (mapped .active none .empty).module 0 with emptyRun := n }

theorem test_witness_ChainPaceFollowsItsRules :
    (quiet 40).chainPace = .brisk ∧ 0 < (quiet 40).settings.quiet ∧ (∃ m, ((quiet 40).module m).state = .active) ∧
    (∀ m, ((quiet 40).module m).state = .active → (quiet 40).settings.quiet ≤ ((quiet 40).module m).emptyRun ∧
      ∀ i ∈ (quiet 40).boundTo m, ∀ p c, ((quiet 40).element i).control = .key p c → c.closed = false ∧ c.rawClosed = false) ∧
    (quiet 40).stack = [] ∧ ((quiet 39).module 0).emptyRun < (quiet 39).settings.quiet ∧
    ({ State.blank with chainPace := .slow } : State).chainPace = .slow := by
  refine ⟨rfl, by decide, ⟨0, by decide +kernel⟩, ?_, rfl, by decide +kernel, rfl⟩
  intro m hm
  refine ⟨?_, fun i _ p c h => nomatch h⟩
  revert hm m
  decide +kernel

theorem test_witness_WaitingReplyEnters :
    ({ busy 1 with replies := List.replicate 3 ⟨1, 1, .done []⟩ } : State).holding = false ∧
    ({ busy 1 with replies := List.replicate 3 ⟨1, 1, .done []⟩ } : State).head = .awaitingSlot ⟨1, 1, .done []⟩ ∧
    ({ busy 1 with replies := List.replicate 3 ⟨1, 1, .done []⟩ } : State).replies.length < 4 ∧
    (busy 1).head = .awaitingSlot ⟨1, 1, .done []⟩ ∧ 4 ≤ (busy 1).replies.length ∧
    (statusWaits 3).holding = false ∧ (statusWaits 3).head = .ready ∧ (statusWaits 3).requests = ⟨1, 1, [], true⟩ :: [] ∧
    ¬ ((13 : Byte) = 13 ∧ (([2] : List Byte) = [0] ∨ ([2] : List Byte) = [1])) ∧ (2 : Byte) ≠ 1 := by decide

/-- Module 1 Draining with nothing owed, its Write Module in flight. -/
def flushing : State := { mapped .draining none .empty with
  requests := [⟨1, 5, [1, 0, 0, 0, 1], false⟩], head := .flushing 0 ⟨false, 0, 1⟩ }

theorem test_witness_turnedAway :
    turnedAway 0 [] .badRequest ∧ turnedAway 16 [1] .badRequest ∧ turnedAway 9 [0, 0, 0, 0, 0, 1, 0] .badRequest ∧
    turnedAway 1 [0] .badRequest ∧ turnedAway 13 [] .badRequest ∧ turnedAway 13 [2] .badArgument ∧
    turnedAway 7 [0, 0, 5] .badArgument ∧ turnedAway 7 [0, 0] .badRequest ∧ turnedAway 7 [0, 0, 1, 0, 0] .badRequest := by
  refine ⟨.inl ⟨.inl rfl, rfl⟩, .inl ⟨.inr (by decide), rfl⟩, .inr (.inl ⟨⟨8, rfl, by decide⟩, rfl⟩),
    .inr (.inl ⟨⟨0, rfl, by decide⟩, rfl⟩), .inr (.inl ⟨⟨1, rfl, by decide⟩, rfl⟩),
    .inr (.inr (.inr (.inr ⟨rfl, ⟨2, rfl, by decide⟩, rfl⟩))), .inr (.inr (.inl ⟨rfl, ⟨5, rfl, by decide⟩, rfl⟩)),
    .inr (.inr (.inr (.inl ⟨rfl, fun c h => (nomatch h), rfl⟩))), .inr (.inr (.inr (.inl ⟨rfl, fun c h => ?_, rfl⟩)))⟩
  cases h
  exact ⟨by decide, fun n h => by cases h; decide⟩

theorem test_witness_FlushCompletes :
    flushing.holding = false ∧ flushing.head = .flushing 0 ⟨false, 0, 1⟩ ∧
    flushing.requests = ⟨1, 5, [1, 0, 0, 0, 1], false⟩ :: [] ∧
    (∀ i ∈ flushing.boundTo 0, ∀ p c, (flushing.element i).control = .key p c →
      ¬ (p.mode = .both ∧ c.stale = true) ∧ c.echoPending = false) :=
  ⟨by decide, rfl, rfl, fun _ _ _ _ h => nomatch h⟩

theorem test_witness_CaptureRequestsAreCarriedOut :
    State.blank.managementIdle ∧ 62 < (63 : Byte).toNat ∧ (∃ m f, f = some m ∧ (62 : Byte).toNat = (m : ModuleIx).val + 1) ∧
    1 ≤ (1 : Byte).toNat ∧ (16 : Byte).toNat ≤ 16 :=
  ⟨test_witness_managementIdle.1, by decide, ⟨61, some 61, rfl, rfl⟩, by decide, by decide⟩

/-- The capture ring enabled, with `n` readable and `k` uncommitted entries. -/
def recording (n k : Nat) : State := { mapped .active none .empty with
  capture := ⟨List.replicate n (.sweep 0 1 .applied), List.replicate k (.report 0 1 1), true, some 0, 65535⟩ }

theorem test_witness_CaptureRecordsAndOverflows :
    (recording 255 0).capture.enabled = true ∧ (recording 255 0).capture.filter = some 0 ∧
    ((recording 255 0).module 0).mark = .recording ∧
    (recording 255 0).capture.readable.length + (recording 255 0).capture.uncommitted.length < 256 ∧
    256 ≤ (recording 200 56).capture.readable.length + (recording 200 56).capture.uncommitted.length ∧
    (((recording 0 0).setModule 0 { (recording 0 0).module 0 with mark := .withdrawn }).module 0).mark = .withdrawn ∧
    State.blank.capture.enabled = false ∧ ((recording 0 0).capture.filter ≠ none ∧ (recording 0 0).capture.filter ≠ some 1) := by
  decide +kernel

/-- A tick waits to be taken. -/
def ticking : State := { State.blank with pending := [.tick .marking] }

theorem test_ticking_element (i : Nat) : (ticking.element i).control = .ignore := rfl

theorem test_ticking_table : ticking.tableOk := ⟨rfl, List.forall_mem_nil fun p : Nat × Element => p.1 < 1024⟩

theorem test_ticking_head : ticking.head = .ready := rfl

theorem test_witness_step : ∃ t, step ticking = .next t :=
  ⟨tickEvent .marking { ticking with pending := [] }, rfl⟩

theorem test_witness_StepKeepsElementTableCanonical : ticking.tableOk ∧ ∃ t, step ticking = .next t :=
  ⟨test_ticking_table, test_witness_step⟩

theorem test_ticking_bounded : ticking.Bounded := by
  constructor <;> decide +kernel

theorem test_ticking_in_range : ticking.InRange := by
  constructor
  case elements => intro i; rw [test_ticking_element]; trivial
  all_goals decide +kernel

theorem test_witness_StepKeepsQueuesAndCountersBounded :
    ticking.Bounded ∧ ticking.InRange ∧ ∃ t, step ticking = .next t :=
  ⟨test_ticking_bounded, test_ticking_in_range, test_witness_step⟩

theorem test_witness_StepKeepsModuleRangesApart : ticking.Mapped ∧ ∃ t, step ticking = .next t := by
  have hm : ∀ m, (ticking.module m).entry = ⟨false, 0, 1⟩ := by decide +kernel
  refine ⟨⟨fun m => ?_, fun m k i h => ?_, fun m x h => ?_⟩, test_witness_step⟩
  · rw [hm]; decide
  · rw [hm] at h; cases h
  · rw [test_ticking_head] at h; cases h

theorem test_ticking_nothing_due : ticking.NothingDue := by
  constructor
  case reply => intro r _ h; rw [test_ticking_head] at h; cases h
  case flush => intro m x _ h; rw [test_ticking_head] at h; cases h
  all_goals decide +kernel

theorem test_witness_StepLeavesNothingDue : ticking.NothingDue ∧ ∃ t, step ticking = .next t :=
  ⟨test_ticking_nothing_due, test_witness_step⟩

theorem test_witness_StepLeavesNothingDue_order :
    (loaded 1 0 .blank).holding = false ∧ ((loaded 1 0 .blank).head = .ready → (loaded 1 0 .blank).requests = []) ∧
    (∀ r, (loaded 1 0 .blank).head = .awaitingSlot r → 4 ≤ (loaded 1 0 .blank).replies.length) ∧
    (∀ m x, (loaded 1 0 .blank).head = .flushing m x → (loaded 1 0 .blank).requests ≠ [] →
      ∃ i ∈ (loaded 1 0 .blank).boundTo m, ∃ p c, ((loaded 1 0 .blank).element i).control = .key p c ∧
        (p.mode = .both ∧ c.stale = true ∨ c.echoPending = true)) ∧
    selectStep (loaded 1 0 .blank) = none :=
  ⟨by decide, fun _ => rfl, fun _ h => (nomatch h), fun _ _ h => (nomatch h), by decide +kernel⟩

theorem test_witness_TimersRunOnlyUnderActiveModules :
    ticking.Mapped ∧ ticking.SweepsOk ∧ ticking.Rested ∧ ∃ t, step ticking = .next t := by
  have hs : ∀ m, (ticking.module m).sweep.slots = [] := by decide +kernel
  refine ⟨test_witness_StepKeepsModuleRangesApart.1, ⟨fun m x h => ?_, fun m _ => hs m, fun m x h => ?_⟩,
    fun i _ => ⟨fun p c h => ?_, fun p c h => ?_⟩, test_witness_step⟩
  rotate_left
  · rw [test_ticking_head] at h; cases h
  · rw [test_ticking_element] at h; cases h
  · rw [test_ticking_element] at h; cases h
  rw [hs] at h
  cases h

theorem test_witness_OwedFramesWaitOnlyForRoom :
    ticking.tableOk ∧ ticking.Mapped ∧ ticking.OwedOnlyWhenFull ∧ ∃ t, step ticking = .next t := by
  refine ⟨test_ticking_table, test_witness_StepKeepsModuleRangesApart.1,
    fun _ => ⟨rfl, by decide +kernel, fun i m p c _ h => ?_⟩, test_witness_step⟩
  rw [test_ticking_element] at h
  cases h

theorem test_witness_AtMostOneTurnAndLevelWait : ticking.OneWaiting ∧ ∃ t, step ticking = .next t := by
  refine ⟨fun i a n => ?_, test_witness_step⟩
  have h : ∀ k, ticking.waitingFor k i a n = 0 := by
    intro k
    have hf : ∀ l, (ticking.lane l).fifo = [] := by decide +kernel
    simp [State.waitingFor, hf]
  rw [h, h]
  decide

end Sys2Proof.Tests
end

