-- ==== Sys2Proof/Proofs/Check.lean ====
section
/-! The check of a frame (R4): its step for a bit and for a byte, where it stands in a frame, and the value R4 gives
a programmer to test a check routine on. -/

namespace Sys2Proof.Machine

/-! ## The check register -/

theorem checkBit_eq (r : BitVec 16) (x : Bool) :
    checkBit r x = if Bool.xor x r.msb then BitVec.xor (r.shiftLeft 1) 0x1021 else r.shiftLeft 1 := rfl

/-- A byte goes in most significant bit first: the model counts its bits from below, R4 from above. -/
theorem checkByte_eq_checkBits (r : BitVec 16) (b : Byte) :
    checkByte r b =
      checkBit (checkBit (checkBit (checkBit (checkBit (checkBit (checkBit (checkBit r
        (b.getMsbD 0)) (b.getMsbD 1)) (b.getMsbD 2)) (b.getMsbD 3)) (b.getMsbD 4)) (b.getMsbD 5)) (b.getMsbD 6))
        (b.getMsbD 7) := by
  have fromAbove : ∀ i < 8, b.getMsbD i = b.getLsbD (7 - i) := fun i hi => by simp [BitVec.getMsbD, hi]
  simp [checkByte, fromAbove]

/-- The check of no bytes is the start value of the register. -/
@[simp] theorem check_nil : check [] = 0xFFFF := rfl

/-- Bytes are taken in the order sent, so a byte more is one step of the register more. -/
theorem check_append (xs ys : List Byte) : check (xs ++ ys) = ys.foldl checkByte (check xs) :=
  List.foldl_append

theorem check_append_singleton (bytes : List Byte) (b : Byte) :
    check (bytes ++ [b]) = checkByte (check bytes) b := by
  rw [check_append, List.foldl_cons, List.foldl_nil]

/-- R4's test of a check routine: the digits 1 to 9 in ASCII. -/
theorem check_testBytes : check [49, 50, 51, 52, 53, 54, 55, 56, 57] = 0x29B1 := by decide +kernel

/-! ## The check in a frame -/

theorem wordBytes_eq_twoBytes (w : Word) : wordBytes w = twoBytes w.toNat := by
  rw [← natBytes_toNat, natBytes_eq, twoBytes]

theorem checkedBytes_eq (f : Frame) :
    checkedBytes f = [f.kind.setWidth 8, f.addr.setWidth 8, BitVec.ofNat 8 f.payload.length] ++ f.payload := rfl

/-- The check of the header and the payload follows them, high byte first. -/
theorem frameBytes_eq (f : Frame) :
    frameBytes f =
      [f.kind.setWidth 8, f.addr.setWidth 8, BitVec.ofNat 8 f.payload.length] ++ f.payload ++
        twoBytes (check ([f.kind.setWidth 8, f.addr.setWidth 8, BitVec.ofNat 8 f.payload.length] ++ f.payload)).toNat := by
  rw [frameBytes, wordBytes_eq_twoBytes, checkedBytes_eq]

/-- Settles O4 from the rules of the check register and the place of the check in a frame. -/
theorem checkIsTheStatedCrc : Obligations.CheckIsTheStatedCrc :=
  ⟨check_nil, check_append_singleton, checkByte_eq_checkBits, checkBit_eq, frameBytes_eq, check_testBytes⟩

end Sys2Proof.Machine
end

