-- ==== Sys2Proof/Proofs/Turns.lean ====
section
/-! The placing of a turn (R104): the search for an untaken notice and its change in place (R100, R106), the coalesce
limit, and what `placeTurn` does in each of R104's cases. -/

namespace Sys2Proof.Machine

/-! ## The search for an untaken notice -/

theorem State.laneWith_eq_none_iff (s : State) (y : Notice → Bool) :
    s.laneWith y = none ↔ ∀ l, ∀ n ∈ (s.lane l).fifo, y n = false := by
  simp [State.laneWith, allLanes, List.find?_eq_none]

/-- The search takes the lanes in order: the lane it stops at holds such a notice, and no lane below it does. -/
theorem State.laneWith_eq_some {s : State} {y : Notice → Bool} {l : Fin 8} (h : s.laneWith y = some l) :
    (∃ n ∈ (s.lane l).fifo, y n = true) ∧ ∀ k < l, ∀ z ∈ (s.lane k).fifo, y z = false := by
  obtain ⟨here, j, hj, hl, below⟩ := List.find?_eq_some_iff_getElem.mp h
  have hjl : j = l.val := by simpa [allLanes] using congrArg Fin.val hl
  refine ⟨by simpa using here, fun k hk => ?_⟩
  simpa [allLanes] using below k (hjl ▸ hk)

theorem State.findUntaken_of_laneWith {s : State} {y : Notice → Bool} {l : Fin 8} (h : s.laneWith y = some l) :
    s.findUntaken y = (s.lane l).fifo.find? y := by simp [State.findUntaken, h]

/-- The lane the search stops at is one that holds such a notice, so its own search does not fail. -/
theorem State.findUntaken_eq_none_iff_laneWith (s : State) (y : Notice → Bool) :
    s.findUntaken y = none ↔ s.laneWith y = none := by
  cases hl : s.laneWith y with
  | none => simp [State.findUntaken, hl]
  | some l =>
    obtain ⟨⟨n, hn, hy⟩, -⟩ := State.laneWith_eq_some hl
    have found : (s.lane l).fifo.find? y ≠ none := fun missed => List.find?_eq_none.mp missed n hn hy
    simpa [State.findUntaken_of_laneWith hl] using found

theorem State.findUntaken_eq_none_iff (s : State) (y : Notice → Bool) :
    s.findUntaken y = none ↔ ∀ l, ∀ n ∈ (s.lane l).fifo, y n = false :=
  (s.findUntaken_eq_none_iff_laneWith y).trans (s.laneWith_eq_none_iff y)

/-! ## The change in place -/

theorem amend_of_findUntaken_eq_none {s : State} {y : Notice → Bool} (f : Notice → Notice)
    (h : s.findUntaken y = none) : amend y f s = s := by
  simp [amend, (s.findUntaken_eq_none_iff_laneWith y).mp h]

/-- The notice changed is the one found: the first of its lane with the property, in the first lane that holds one. -/
theorem amend_of_findUntaken {s : State} {y : Notice → Bool} {n : Notice} (f : Notice → Notice)
    (h : s.findUntaken y = some n) :
    ∃ l a b, (s.lane l).fifo = a ++ n :: b ∧ y n = true ∧ (∀ z ∈ a, y z = false) ∧
      (∀ k < l, ∀ z ∈ (s.lane k).fifo, y z = false) ∧
      amend y f s = s.setLane l { s.lane l with fifo := a ++ f n :: b } := by
  cases hl : s.laneWith y with
  | none =>
    rw [(s.findUntaken_eq_none_iff_laneWith y).mpr hl] at h
    cases h
  | some l =>
    rw [State.findUntaken_of_laneWith hl] at h
    obtain ⟨a, b, parts, hn, before, changed⟩ := changeFirst_of_find f h
    exact ⟨l, a, b, parts, hn, before, (State.laneWith_eq_some hl).2, by simp [amend, hl, changed]⟩

@[simp] theorem amend_element (y : Notice → Bool) (f : Notice → Notice) (s : State) (i : Nat) :
    (amend y f s).element i = s.element i := by
  unfold amend
  split <;> rfl

/-! ## The coalesce limit -/

theorem within_iff (b x : Int) : within b x = true ↔ -b ≤ x ∧ x ≤ b := by simp [within]

theorem clampTo_of_gt {b : Nat} {x : Int} (h : b < x) : clampTo b x = b := by unfold clampTo; omega

theorem clampTo_of_lt {b : Nat} {x : Int} (h : x < -b) : clampTo b x = -b := by unfold clampTo; omega

/-- A value lies within the limit where holding it at the limit leaves it as it is. -/
theorem clampTo_eq_self_iff (b : Nat) (x : Int) : clampTo b x = x ↔ within b x = true := by
  rw [within_iff]; unfold clampTo; omega

/-! ## The cases of R104 -/

theorem State.elementNotice_of_bound {s : State} {i : Nat} {m : ModuleIx} (h : s.bound i = some m) (k : NoticeKind)
    (v : Int) (z : Option Zone) (f : Flags) : s.elementNotice i k v z f =
      some ⟨k, (s.element i).lane, m.val + 1, i - (s.module m).entry.base, v, z, f, some i⟩ := by
  simp [State.elementNotice, h, ModuleIx.addr, State.numberIn]

theorem oweCarry_of_encoder {s : State} {i : Nat} {p : EncoderParams} {c : EncoderCtx}
    (h : (s.element i).control = .encoder p c) (r : Int) :
    oweCarry i r s = s.setControl i (.encoder p { c with carry := r, carryOwed := true }) :=
  State.updEncoder_of_encoder h _

section Encoder
variable {s : State} {i : Nat} {p : EncoderParams} {c : EncoderCtx} {d : Int}

/-- R104, step 1. -/
theorem placeTurn_of_owed (h : (s.element i).control = .encoder p c) (owed : c.carryOwed = true) :
    placeTurn i d s = s.setControl i (.encoder p { c with carry := max (-32767) (min 32767 (c.carry + d)) }) := by
  simp only [placeTurn, h, owed, if_true, State.updEncoder_of_encoder h]
  rfl

/-- R104, step 2: the sum is within the limit. -/
theorem placeTurn_of_sum_within {q : Notice} (h : (s.element i).control = .encoder p c) (clear : c.carryOwed = false)
    (hq : s.findUntaken (s.isFor i .turn) = some q) (sum : within p.limit (q.value + d) = true) :
    placeTurn i d s = amend (s.isFor i .turn) (fun n => { n with value := q.value + d }) s := by
  simp [placeTurn, h, clear, hq, sum]

/-- R104, step 2: the sum is beyond the limit and the Turn is not, so the Turn goes to the limit and the rest to the
carry. -/
theorem placeTurn_of_sum_beyond {q : Notice} {v : Int} (h : (s.element i).control = .encoder p c)
    (clear : c.carryOwed = false) (hq : s.findUntaken (s.isFor i .turn) = some q)
    (sum : ¬ within p.limit (q.value + d) = true) (turn : within p.limit q.value = true)
    (hv : clampTo p.limit (q.value + d) = v) :
    placeTurn i d s = State.setControl (amend (s.isFor i .turn) (fun n => { n with value := v }) s) i
      (.encoder p { c with carry := q.value + d - v, carryOwed := true }) := by
  have kept : ∀ f, ((amend (s.isFor i .turn) f s).element i).control = .encoder p c := by simp [h]
  simp [placeTurn, h, clear, hq, sum, turn, hv, oweCarry_of_encoder (kept _)]

/-- R104, step 2: the sum and the Turn itself are beyond the limit, so the Turn stays as it is. -/
theorem placeTurn_of_turn_beyond {q : Notice} (h : (s.element i).control = .encoder p c) (clear : c.carryOwed = false)
    (hq : s.findUntaken (s.isFor i .turn) = some q) (sum : ¬ within p.limit (q.value + d) = true)
    (turn : ¬ within p.limit q.value = true) :
    placeTurn i d s = s.setControl i (.encoder p { c with carry := d, carryOwed := true }) := by
  simp [placeTurn, h, clear, hq, sum, turn, oweCarry_of_encoder h]

/-- R104, step 3: a new Turn, held at the limit, is queued where its lane has room; what it does not carry goes to the
carry, and so does the whole turn where it is not queued. -/
theorem placeTurn_of_no_untaken {n : Notice} (h : (s.element i).control = .encoder p c) (clear : c.carryOwed = false)
    (hq : s.findUntaken (s.isFor i .turn) = none)
    (hn : s.elementNotice i .turn (clampTo p.limit d) none {} = some n) :
    placeTurn i d s =
      if s.room n.lane = true then
        if clampTo p.limit d = d then s.pushNotice n
        else State.setControl (s.pushNotice n) i
          (.encoder p { c with carry := d - clampTo p.limit d, carryOwed := true })
      else State.setControl (s.countOverflow n.lane) i (.encoder p { c with carry := d, carryOwed := true }) := by
  have pushed : ((s.pushNotice n).element i).control = .encoder p c := h
  have counted : ((s.countOverflow n.lane).element i).control = .encoder p c := h
  simp only [placeTurn, h, clear, hq, hn, clampTo_eq_self_iff, oweCarry_of_encoder pushed,
    oweCarry_of_encoder counted]
  rfl

end Encoder

/-- Settles O37: the three steps of R104, the search and the change in place, and R106's matching. -/
theorem turnIsPlacedByItsCases : Obligations.TurnIsPlacedByItsCases := by
  refine ⟨fun i d s p c m h bound => ⟨placeTurn_of_owed h, fun q clear hq => ⟨?_, ?_, ?_, ?_⟩,
      fun v n clear hq hv hn => ?_⟩,
    fun y f s => ⟨s.findUntaken_eq_none_iff y, amend_of_findUntaken_eq_none f, fun _ => amend_of_findUntaken f⟩,
    State.isFor_iff⟩
  · intro above below
    exact placeTurn_of_sum_within h clear hq ((within_iff _ _).mpr ⟨above, below⟩)
  · intro above below beyond
    exact placeTurn_of_sum_beyond h clear hq (by rw [within_iff]; omega) ((within_iff _ _).mpr ⟨above, below⟩)
      (clampTo_of_gt beyond)
  · intro above below beyond
    rw [placeTurn_of_sum_beyond h clear hq (by rw [within_iff]; omega) ((within_iff _ _).mpr ⟨above, below⟩)
      (clampTo_of_lt beyond), sub_neg_eq_add]
  · intro turn sum
    exact placeTurn_of_turn_beyond h clear hq (by rw [within_iff]; omega) (by rw [within_iff]; omega)
  · have hv' : clampTo p.limit d = v := hv.symm
    have new : s.elementNotice i .turn (clampTo p.limit d) none {} = some n := by
      rw [State.elementNotice_of_bound bound, hv', hn]
    have lane : n.lane = (s.element i).lane := by rw [hn]
    rw [placeTurn_of_no_untaken h clear hq new, hv', lane]
    exact ⟨fun room whole => by rw [if_pos room, if_pos whole], fun room part => by rw [if_pos room, if_neg part],
      fun full => by rw [if_neg (by simp [full])]⟩

end Sys2Proof.Machine
end

