-- ==== Sys2Proof/Proofs/Selection.lean ====
section
/-! Eligibility (R117) and the selection of the console transmitter (R119, R120): which frame it chooses, from the
replies, the arbiter's offer, the burst count and bulk hold, and what it can have taken. -/

namespace Sys2Proof.Machine

/-! ## Eligibility and bulk hold -/

theorem State.eligible_iff (s : State) (l : Fin 8) : s.eligible l = true ↔
    (s.lane l).fifo ≠ [] ∧ (s.lane l).entry.masked = false ∧ (s.lane l).entry.priority ≤ s.settings.ceiling ∧
      ∀ k ∈ s.stack, (s.lane l).entry.priority < (s.lane k).entry.priority := by
  simp only [State.eligible, Bool.and_eq_true, Bool.not_eq_true', decide_eq_true_eq, List.all_eq_true, and_assoc]
  rfl

/-- A lane in the in-service stack would have to lie below its own priority. -/
theorem State.eligible_eq_false_of_mem_stack {s : State} {l : Fin 8} (h : l ∈ s.stack) : s.eligible l = false := by
  rw [Bool.eq_false_iff]
  intro eligible
  obtain ⟨-, -, -, below⟩ := (s.eligible_iff l).mp eligible
  exact lt_irrefl _ (below l h)

theorem State.bulkHold_iff (s : State) : s.bulkHold = true ↔ ∃ l ∈ s.stack, (s.lane l).entry.urgent = true := by
  simp [State.bulkHold]

theorem State.passReady_iff (s : State) : s.passReady = true ↔ s.passQueue ≠ [] ∧ s.bulkHold = false := by
  simp [State.passReady]

/-! ## The take of a reply and of a pass-through frame -/

theorem takeReply_of_cons {s : State} {r : Reply} {rest : List Reply} (h : s.replies = r :: rest) :
    takeReply s = { s with replies := rest, consoleTx := some (.reply r) } := by simp [takeReply, h]

theorem takePass_of_cons {s : State} {f : Frame} {rest : List Frame} (h : s.passQueue = f :: rest) :
    takePass s = { s with passQueue := rest, consoleTx := some (.pass f), burst := 0 } := by simp [takePass, h]

/-! ## The choice of a selection -/

section Choice

variable {s : State}

theorem State.choice_of_replies (h : s.replies ≠ []) : s.choice = some .reply := by simp [State.choice, h]

theorem State.choice_of_offer {l : Fin 8} (none_waits : s.replies = []) (h : s.offer = some l) :
    s.choice = if s.settings.burst ≤ s.burst ∧ s.passReady = true then some .pass else some (.notice l) := by
  simp [State.choice, none_waits, h]

theorem State.choice_of_no_offer (none_waits : s.replies = []) (h : s.offer = none) :
    s.choice = if s.passReady = true then some .pass else none := by
  simp [State.choice, none_waits, h]

/-- R120, step 3: it is reached with no offer, or with an offer passed over. -/
theorem State.choice_of_passReady (none_waits : s.replies = []) (ready : s.passReady = true)
    (h : s.offer = none ∨ s.settings.burst ≤ s.burst) : s.choice = some .pass := by
  cases offer : s.offer with
  | none => rw [State.choice_of_no_offer none_waits offer, if_pos ready]
  | some l =>
    have reached : s.settings.burst ≤ s.burst := h.resolve_left (by simp [offer])
    rw [State.choice_of_offer none_waits offer, if_pos ⟨reached, ready⟩]

/-- What is chosen is there to be taken. -/
theorem State.choice_cases {c : Choice} (h : s.choice = some c) :
    (c = .reply ∧ s.replies ≠ []) ∨ (∃ l, c = .notice l ∧ s.offer = some l) ∨ (c = .pass ∧ s.passReady = true) := by
  by_cases none_waits : s.replies = []
  · cases offer : s.offer with
    | none =>
      rw [State.choice_of_no_offer none_waits offer, Option.ite_none_right_eq_some] at h
      obtain ⟨ready, chosen⟩ := h
      cases chosen
      exact .inr (.inr ⟨rfl, ready⟩)
    | some l =>
      rw [State.choice_of_offer none_waits offer] at h
      split at h
      next passed_over =>
        cases h
        exact .inr (.inr ⟨rfl, passed_over.2⟩)
      next =>
        cases h
        exact .inr (.inl ⟨l, rfl, rfl⟩)
  · rw [State.choice_of_replies none_waits] at h
    cases h
    exact .inl ⟨rfl, none_waits⟩

/-! ## The selection -/

theorem selectStep_of_idle (idle : s.consoleTx = none) (unpaused : s.pauseIn = false) :
    selectStep s = s.choice.map fun c => takeChoice c s := by simp [selectStep, idle, unpaused]

theorem selectStep_eq_some_iff {t : State} : selectStep s = some t ↔
    (s.consoleTx = none ∧ s.pauseIn = false) ∧ ∃ c, s.choice = some c ∧ takeChoice c s = t := by
  simp [selectStep, Option.map_eq_some_iff]

/-- What a selection can have taken: the reply at the head, the arbiter's offer, or the pass-through frame at the head. -/
theorem selectStep_cases {t : State} (h : selectStep s = some t) :
    (∃ r rest, s.replies = r :: rest ∧ t = { s with replies := rest, consoleTx := some (.reply r) }) ∨
    (∃ l, s.offer = some l ∧ t = takeNotice l s) ∨
    ∃ f rest, s.passQueue = f :: rest ∧ t = { s with passQueue := rest, consoleTx := some (.pass f), burst := 0 } := by
  obtain ⟨-, c, chosen, rfl⟩ := selectStep_eq_some_iff.mp h
  obtain ⟨rfl, waits⟩ | ⟨l, rfl, offered⟩ | ⟨rfl, ready⟩ := State.choice_cases chosen
  · obtain ⟨r, rest, head⟩ := List.exists_cons_of_ne_nil waits
    exact .inl ⟨r, rest, head, takeReply_of_cons head⟩
  · exact .inr (.inl ⟨l, offered, rfl⟩)
  · obtain ⟨f, rest, head⟩ := List.exists_cons_of_ne_nil (s.passReady_iff.mp ready).1
    exact .inr (.inr ⟨f, rest, head, takePass_of_cons head⟩)

/-- A notice is in flight after a selection only as the arbiter's offer, which names an eligible lane (R117, R118). -/
theorem eligible_of_selectStep_notice {t : State} {n : Notice} (h : selectStep s = some t)
    (sent : t.consoleTx = some (.notice n)) : ∃ l, s.eligible l = true ∧ (s.lane l).fifo.head? = some n := by
  obtain ⟨r, rest, -, rfl⟩ | ⟨l, offered, rfl⟩ | ⟨f, rest, -, rfl⟩ := selectStep_cases h
  case inl => simp at sent
  case inr.inr => simp at sent
  case inr.inl =>
    have eligible := State.eligible_of_offer offered
    obtain ⟨m, taken, head⟩ := takeNotice_consoleTx (State.fifo_ne_nil_of_eligible eligible)
    have same : m = n := by simpa [taken] using sent
    exact ⟨l, eligible, same ▸ head⟩

end Choice

/-! ## The obligations -/

/-- Settles O41: a selection takes a notice only as the arbiter's offer, and the lane offered is eligible. -/
theorem onlyEligibleLanesAreTaken : Obligations.OnlyEligibleLanesAreTaken :=
  ⟨State.eligible_iff, fun _ _ => State.eligible_eq_false_of_mem_stack, fun _ _ _ => eligible_of_selectStep_notice⟩

/-- Settles O43: the choice of R120 in each of its four steps, and the take of what is chosen. -/
theorem selectionFollowsItsSteps : Obligations.SelectionFollowsItsSteps := by
  refine ⟨State.bulkHold_iff, fun s idle unpaused => ?_⟩
  rw [selectStep_of_idle idle unpaused]
  refine ⟨fun r rest head => ?_, fun l none_waits offered kept => ?_, fun f rest none_waits head off turn => ?_,
    fun none_waits no_offer blocked => ?_⟩
  · have waits : s.replies ≠ [] := by simp [head]
    rw [State.choice_of_replies waits]
    exact congrArg some (takeReply_of_cons head)
  · rw [State.choice_of_offer none_waits offered, if_neg (by rwa [State.passReady_iff])]
    rfl
  · have ready : s.passReady = true := s.passReady_iff.mpr ⟨by simp [head], off⟩
    rw [State.choice_of_passReady none_waits ready turn]
    exact congrArg some (takePass_of_cons head)
  · have not_ready : ¬ s.passReady = true := by
      rw [State.passReady_iff]
      rintro ⟨waits, off⟩
      exact blocked.elim waits (by simp [off])
    rw [State.choice_of_no_offer none_waits no_offer, if_neg not_ready]
    rfl

end Sys2Proof.Machine
end

/-! # Nothing is left due after a step (O57)

Every command ends in `settle`, which leaves nothing due, or changes nothing that a due step looks at, or leaves the
block held. -/

namespace Sys2Proof.Machine

variable {s t : State}

/-! ## Nothing due is no due step -/

theorem State.nothingDue_iff (s : State) : s.NothingDue ↔ s.Quiescent := by
  rw [State.Quiescent, dueStep_eq_none_iff]
  constructor
  · rintro ⟨request, reply, flush, console, chain⟩ free
    exact ⟨request free, fun r => reply r free, fun m x => flush m x free, console free, chain free⟩
  · intro h
    exact ⟨fun free => (h free).1, fun r free => (h free).2.1 r, fun m x free => (h free).2.2.1 m x,
      fun free => (h free).2.2.2.1, fun free => (h free).2.2.2.2⟩

theorem nothingDue_settle (s : State) : (settle s).NothingDue := (settle s).nothingDue_iff.mpr (settle_quiescent s)

theorem State.nothingDue_of_holding (h : s.holding = true) : s.NothingDue := by
  rw [State.nothingDue_iff, State.Quiescent, dueStep_eq_none_iff, h]
  simp

/-! ## Updates that a due step does not look at -/

section Updates
variable (h : s.NothingDue)
include h

theorem State.NothingDue.consoleRx (x : Line) : State.NothingDue { s with consoleRx := x } :=
  ⟨h.request, h.reply, h.flush, h.console, h.chain⟩

theorem State.NothingDue.pending (x : List Instr) : State.NothingDue { s with pending := x } :=
  ⟨h.request, h.reply, h.flush, h.console, h.chain⟩

/-- Under an asserted pause-in no selection is made (R12). -/
theorem State.NothingDue.paused : State.NothingDue { s with pauseIn := true } :=
  ⟨h.request, h.reply, h.flush, fun _ _ unpaused => (by cases unpaused), h.chain⟩

theorem State.NothingDue.detector {d : Detector} (now : s.detector ≠ .broken) (later : d ≠ .broken) :
    State.NothingDue { s with detector := d } := by
  have same : State.holding { s with detector := d } = s.holding := by
    show (_ || d == .broken) = (_ || s.detector == .broken)
    rw [beq_eq_false_iff_ne.mpr now, beq_eq_false_iff_ne.mpr later]
  exact ⟨fun free => h.request (same ▸ free), fun r free => h.reply r (same ▸ free),
    fun m x free => h.flush m x (same ▸ free), fun free => h.console (same ▸ free), fun free => h.chain (same ▸ free)⟩

theorem State.NothingDue.countFrameError (p : Port) : (s.countFrameError p).NothingDue := by
  cases p <;> exact ⟨h.request, h.reply, h.flush, h.console, h.chain⟩

theorem State.NothingDue.setFramer (p : Port) (x : Framer) : (s.setFramer p x).NothingDue := by
  cases p <;> exact ⟨h.request, h.reply, h.flush, h.console, h.chain⟩

/-- What a due step looks at, the same before and after. -/
theorem State.NothingDue.congr (wires : t.wires = s.wires) (head : t.head = s.head) (outbound : t.outbound = s.outbound)
    (boundTo : ∀ m, t.boundTo m = s.boundTo m) (eligible : ∀ l, t.eligible l = s.eligible l)
    (bulkHold : t.bulkHold = s.bulkHold)
    (owes : ∀ i p c, (s.element i).control = .key p c →
      ∃ d, (t.element i).control = .key p d ∧ d.stale = c.stale ∧ d.echoPending = c.echoPending) : t.NothingDue := by
  have holding := State.holding_of_wires wires
  have requests := State.requests_of_wires wires
  have replies := State.replies_of_wires wires
  have pauseIn : t.pauseIn = s.pauseIn := congrArg Wires.pauseIn wires
  refine ⟨?_, ?_, fun m x free waiting some_wait => ?_, ?_, ?_⟩
  · rw [holding, head, requests]; exact h.request
  · rw [holding, head, replies]; exact h.reply
  · rw [holding] at free
    rw [head] at waiting
    rw [requests] at some_wait
    obtain ⟨i, mem, p, c, key, stale⟩ := h.flush m x free waiting some_wait
    obtain ⟨d, key', stale_eq, echo_eq⟩ := owes i p c key
    exact ⟨i, (boundTo m).symm ▸ mem, p, d, key', by rwa [stale_eq, echo_eq]⟩
  · simp only [holding, State.consoleTx_of_wires wires, pauseIn, replies, eligible, State.passQueue_of_wires wires, bulkHold]
    exact h.console
  · rw [holding, State.surfaceSending_of_wires wires, outbound]; exact h.chain

omit h in
theorem element_countTimers (s : State) (i : Nat) :
    ((countTimers s).element i).control = (s.element i).control.count := by
  show (State.element (s.mapControls fun _ c => c.count) i).control = _
  rw [State.element_mapControls fun _ => rfl]

omit h in
theorem module_countTimers (s : State) (m : ModuleIx) :
    (countTimers s).module m = { s.module m with watchdog := (s.module m).watchdog.count } := by
  simp [countTimers, State.module]

omit h in
theorem lane_countTimers (s : State) (l : Fin 8) :
    (countTimers s).lane l = { s.lane l with timer := (s.lane l).timer.count } := by simp [countTimers, State.lane]

/-- A tick counts timers; a due step reads none (R1). -/
theorem nothingDue_countTimers : (countTimers s).NothingDue := by
  refine h.congr rfl rfl rfl (fun m => ?_) (fun l => ?_) ?_ fun i p c key => ?_
  · simp only [State.boundTo, module_countTimers]
  · simp only [State.eligible, State.priority, lane_countTimers]; rfl
  · simp only [State.bulkHold, lane_countTimers]; rfl
  · exact ⟨{ c with timer := c.timer.count }, by rw [element_countTimers, key]; rfl, rfl, rfl⟩

end Updates

/-! ## Commands -/

section Commands
variable (h : s.NothingDue)
include h

theorem nothingDue_internal (f : State → Option State) : (internal f s).NothingDue := by
  unfold internal
  split
  · exact h
  · exact nothingDue_settle _

theorem nothingDue_expireWatchdog (m : ModuleIx) : (expireWatchdog m s).NothingDue := by
  unfold expireWatchdog; split
  exacts [nothingDue_settle _, h]

theorem nothingDue_expireRepeat (i : Nat) : (expireRepeat i s).NothingDue := by
  unfold expireRepeat; split
  exacts [nothingDue_settle _, h]

theorem nothingDue_expirePace (i : Nat) : (expirePace i s).NothingDue := by
  unfold expirePace; split
  exacts [nothingDue_settle _, h]

theorem nothingDue_expireService (l : Fin 8) : (expireService l s).NothingDue := by
  unfold expireService; split
  exacts [nothingDue_settle _, h]

omit h in
theorem foldl_keeps {α : Type} {P : State → Prop} {f : State → α → State} (step : ∀ s a, P s → P (f s a)) (l : List α)
    {s : State} (hs : P s) : P (l.foldl f s) := by
  induction l generalizing s with
  | nil => exact hs
  | cons a l ih => exact ih (step s a hs)

theorem nothingDue_takeDue : (takeDue s).NothingDue := by
  unfold takeDue
  exact foldl_keeps (P := State.NothingDue) (fun _ l hs => nothingDue_expireService hs l) _ <|
    foldl_keeps (P := State.NothingDue) (fun _ i hs => nothingDue_expirePace hs i) _ <|
      foldl_keeps (P := State.NothingDue) (fun _ i hs => nothingDue_expireRepeat hs i) _ <|
        foldl_keeps (P := State.NothingDue) (fun _ m hs => nothingDue_expireWatchdog hs m) _ h

omit h in
theorem lineReturns_of_clear (hd : s.detector = .clear) : lineReturns s = { s with consoleRx := .marking } := by
  simp [lineReturns, lineToMarking, hd]

omit h in
theorem lineReturns_of_spacingSeen (hd : s.detector = .spacingSeen) :
    lineReturns s = { s with consoleRx := .marking, detector := .clear } := by
  simp [lineReturns, lineToMarking, hd]

omit h in
theorem lineReturns_of_broken (hd : s.detector = .broken) : lineReturns s =
    settle (completeWarm .linkBreak { s with consoleRx := .marking, detector := .clear }) := by
  simp [lineReturns, lineToMarking, hd]

omit h in
theorem detectSpacing_of_clear (hd : s.detector = .clear) :
    detectSpacing s = { s with consoleRx := .spacing, detector := .spacingSeen } := by simp [detectSpacing, hd]

omit h in
theorem detectSpacing_of_spacingSeen (hd : s.detector = .spacingSeen) : detectSpacing s = breakDetected s := by
  simp [detectSpacing, hd]

omit h in
theorem detectSpacing_of_broken (hd : s.detector = .broken) : detectSpacing s = { s with consoleRx := .spacing } := by
  simp [detectSpacing, hd]

theorem nothingDue_lineReturns : (lineReturns s).NothingDue := by
  cases hd : s.detector with
  | broken => rw [lineReturns_of_broken hd]; exact nothingDue_settle _
  | clear => rw [lineReturns_of_clear hd]; exact h.consoleRx _
  | spacingSeen =>
    rw [lineReturns_of_spacingSeen hd]
    exact (h.consoleRx .marking).detector (by simp [hd]) (by decide)

omit h in
theorem breakDetected_holding (s : State) : (breakDetected s).holding = true := by simp [breakDetected, State.holding]

theorem nothingDue_detectSpacing : (detectSpacing s).NothingDue := by
  cases hd : s.detector with
  | clear =>
    rw [detectSpacing_of_clear hd]
    exact (h.consoleRx .spacing).detector (by simp [hd]) (by decide)
  | spacingSeen =>
    rw [detectSpacing_of_spacingSeen hd]
    exact State.nothingDue_of_holding (breakDetected_holding s)
  | broken => rw [detectSpacing_of_broken hd]; exact h.consoleRx _

theorem nothingDue_tickEvent (x : Line) : (tickEvent x s).NothingDue := by
  cases x with
  | marking =>
    unfold tickEvent; dsimp only; split
    · exact nothingDue_lineReturns h
    · exact nothingDue_countTimers (nothingDue_takeDue (nothingDue_lineReturns h))
  | spacing =>
    unfold tickEvent; dsimp only; split
    · exact h.consoleRx _
    · exact nothingDue_detectSpacing (nothingDue_countTimers (nothingDue_takeDue h))

theorem nothingDue_frameArrives (p : Port) (f : Frame) : (frameArrives p f s).NothingDue := by
  unfold frameArrives; split
  exacts [h, nothingDue_settle _]

theorem nothingDue_malformed (p : Port) : (malformed p s).NothingDue := by
  unfold malformed; split
  exacts [h, (h.countFrameError p).setFramer p _]

theorem nothingDue_frameComplete (p : Port) (k a l : Byte) (got : List Byte) :
    (frameComplete p k a l got s).NothingDue := by
  unfold frameComplete; split
  exacts [nothingDue_settle _, h.countFrameError p]

theorem nothingDue_character (p : Port) (e : LineEvent) : (character p e s).NothingDue := by
  unfold character
  split
  · exact h
  · cases e with
    | start b =>
      unfold startCharacter; dsimp only; split
      exacts [h.setFramer p _, (h.countFrameError p).setFramer p _]
    | continuation b =>
      unfold continuation; dsimp only; split
      · exact h
      · exact h.setFramer p _
      · split
        exacts [h.setFramer p _, (h.countFrameError p).setFramer p _]
      · split
        exacts [h.setFramer p _, nothingDue_frameComplete (h.setFramer p _) p _ _ _ _]
    | error =>
      unfold characterError; dsimp only; split
      exacts [h, (h.countFrameError p).setFramer p _]

/-- Every command leaves nothing due where nothing was. -/
theorem nothingDue_afterCommand (c : Instr) : (s.afterCommand c).NothingDue := by
  cases c with
  | tick x => exact nothingDue_tickEvent h x
  | malformedFrame p => exact nothingDue_malformed h p
  | awaitingSlotEnd => exact nothingDue_internal h _
  | flushComplete => exact nothingDue_internal h _
  | consoleSelection => exact nothingDue_internal h _
  | surfaceFrameStart => exact nothingDue_internal h _
  | consoleFrameSent =>
    show State.NothingDue (if _ then _ else _)
    split
    exacts [h, nothingDue_settle _]
  | surfaceFrameSent =>
    show State.NothingDue (if _ then _ else _)
    split
    exacts [nothingDue_settle _, h]
  | pauseInAssert => exact h.paused
  | pauseInDeassert => exact nothingDue_settle _
  | linkBreak =>
    show State.NothingDue (if _ then _ else _)
    split
    exacts [h, State.nothingDue_of_holding (breakDetected_holding s)]
  | linkBreakEnd => exact nothingDue_lineReturns h
  | powerOnReset => exact State.nothingDue_of_holding rfl
  | powerOnResetRelease =>
    show State.NothingDue (if _ then _ else _)
    split
    exacts [nothingDue_settle _, h]
  | watchdogExpiry a =>
    unfold State.afterCommand
    simp only [exec, execWatchdogExpiry]
    cases moduleOf a with
    | none => exact h
    | some m => exact nothingDue_expireWatchdog h m
  | repeatTimerExpiry i => exact nothingDue_expireRepeat h i
  | paceTimerExpiry i => exact nothingDue_expirePace h i
  | serviceTimerExpiry l => exact nothingDue_expireService h l
  | returnToMarking => exact nothingDue_lineReturns h
  | characterEvent p e => exact nothingDue_character h p e
  | _ => exact nothingDue_frameArrives h _ _

end Commands

/-- A step is the command at the front of the queue, or none. -/
theorem step_cases (h : step s = .next t) :
    s.pending = [] ∧ t = s ∨ ∃ c rest, s.pending = c :: rest ∧ t = State.afterCommand { s with pending := rest } c := by
  unfold step at h
  split at h
  · cases h; exact .inl ⟨‹_›, rfl⟩
  · rename_i c rest queue
    exact .inr ⟨c, rest, queue, by rw [State.afterCommand, h]⟩

/-! ## The internal steps as commands -/

section Internal
variable (free : s.holding = false)
include free

theorem dueStep_of_flushStep (h : flushStep s = some t) : dueStep s = some t := by simp [dueStep, free, h]

theorem dueStep_of_slotStep (h : slotStep s = some t) : dueStep s = some t := by
  obtain ⟨r, head, -⟩ := slotStep_cases h
  have no_flush : flushStep s = none := by simp [flushStep, head]
  simp [dueStep, free, h, no_flush]

theorem dueStep_of_selectStep (no_flush : flushStep s = none) (no_slot : slotStep s = none)
    (no_request : executeStep s = none) (h : selectStep s = some t) : dueStep s = some t := by
  simp [dueStep, free, h, no_flush, no_slot, no_request]

theorem dueStep_of_surfaceStep (no_flush : flushStep s = none) (no_slot : slotStep s = none)
    (no_request : executeStep s = none) (no_selection : selectStep s = none) (h : surfaceStep s = some t) :
    dueStep s = some t := by
  simp [dueStep, free, h, no_flush, no_slot, no_request, no_selection]

end Internal

theorem executeStep_eq_none (h : s.head = .ready → s.requests = []) : executeStep s = none := by
  cases e : executeStep s with
  | none => rfl
  | some t =>
    obtain ⟨r, rest, head, requests, -⟩ := executeStep_cases e
    rw [h head] at requests; cases requests

theorem slotStep_eq_none (h : ∀ r, s.head = .awaitingSlot r → 4 ≤ s.replies.length) : slotStep s = none := by
  cases e : slotStep s with
  | none => rfl
  | some t =>
    obtain ⟨r, head, room, -⟩ := slotStep_cases e
    exact absurd room (Nat.not_lt.mpr (h r head))

theorem flushStep_eq_none (h : ∀ m x, s.head = .flushing m x → s.requests ≠ [] → ∃ i ∈ s.boundTo m, ∃ p c,
    (s.element i).control = .key p c ∧ (p.mode = .both ∧ c.stale = true ∨ c.echoPending = true)) : flushStep s = none := by
  cases e : flushStep s with
  | none => rfl
  | some t =>
    obtain ⟨m, x, r, rest, head, requests, done, -⟩ := flushStep_cases e
    obtain ⟨i, mem, p, c, key, owes⟩ := h m x head (by simp [requests])
    have clear : s.flushOwes i = false := by
      simp only [State.flushDone, Bool.not_eq_true', List.any_eq_false] at done
      simpa using done i mem
    simp [State.flushOwes, key] at clear
    rcases owes with ⟨mode, stale⟩ | pending
    · simp [clear.1 mode] at stale
    · simp [clear.2] at pending

/-- Settles O57: every command ends in `settle` or leaves what the due steps look at; an internal step asked for by a
command of its own is the first due step. -/
theorem stepLeavesNothingDue : Obligations.StepLeavesNothingDue := by
  refine ⟨fun s t h taken => ?_, fun s h => settle_of_quiescent (s.nothingDue_iff.mp h), fun s free => ?_⟩
  · rcases step_cases taken with ⟨-, rfl⟩ | ⟨c, rest, -, rfl⟩
    · exact h
    · exact nothingDue_afterCommand (h.pending rest) c
  · refine ⟨congrArg _ (internal_eq_settle free fun t => dueStep_of_flushStep free),
      congrArg _ (internal_eq_settle free fun t => dueStep_of_slotStep free), fun request reply flush => ?_⟩
    have no_flush := flushStep_eq_none flush
    have no_slot := slotStep_eq_none reply
    have no_request := executeStep_eq_none request
    exact ⟨congrArg _ (internal_eq_settle free fun t => dueStep_of_selectStep free no_flush no_slot no_request),
      fun no_selection => congrArg _
        (internal_eq_settle free fun t => dueStep_of_surfaceStep free no_flush no_slot no_request no_selection)⟩

end Sys2Proof.Machine

/-! # What the element processor, the notice queue, the merger and the sweep assembler can do to a state

Every operation of these units is a run of strokes: updates of one part of the state, each with the guard the operation
makes it under. The invariants are proved of the strokes, once each, and hold of every operation by them. -/

namespace Sys2Proof.Machine

/-! ## Guards -/

/-- The control runs no timer and is not accepted Closed (the last sentence of R38). -/
def Control.rested : Control → Prop
  | .key _ c => c.closed = false ∧ c.timer = none ∧ c.repeatDue = false
  | .level _ c => c.timer = none
  | .encoder _ _ => True
  | .raw _ => True
  | .ignore => True

/-- The control is a key with an indicator whose echo is owed (R136). -/
def Control.owesEcho : Control → Prop
  | .key p c => p.echo ≠ none ∧ c.echoPending = true
  | .encoder _ _ => False
  | .level _ _ => False
  | .raw _ => False
  | .ignore => False

/-- No entry of the outbound queue is free. -/
def State.full (s : State) : Prop := 32 ≤ s.outbound.length

/-- What an event lets its operations do: start timers at the indices of `wake`, and queue frames to the chain; and
`sound`, under which the values they move are in range. -/
structure License where
  wake  : Nat → Prop
  send  : Prop
  sound : Prop

/-- The control `d` after an operation on the control `c`: of the same class, in range where `c` was, at rest where `c`
was unless it may wake, and owing an echo only where `c` did or the outbound queue is full. -/
structure Control.Moves (sound wakes full : Prop) (c d : Control) : Prop where
  cls   : d.classByte = c.classByte
  range : sound → c.inRange → d.inRange
  rest  : c.rested → d.rested ∨ wakes
  echo  : d.owesEcho → c.owesEcho ∨ full

/-- The counts of a module within their ranges (R20, R43). -/
def Module.inRange (x : Module) : Prop :=
  x.rejected ≤ 65535 ∧ x.gaps ≤ 65535 ∧ x.duplicates ≤ 65535 ∧ x.emptyRun ≤ 255 ∧ x.sweep.received ≤ 256

/-- The slots of a module name elements of its range (R21). -/
def Module.numbered (x : Module) : Prop := ∀ y ∈ x.sweep.slots, y.element < x.entry.count

/-- The module `y` after an operation on the module `x` that is no change of state or entry. -/
structure Module.Moves (full : Prop) (x y : Module) : Prop where
  entry   : y.entry = x.entry
  state   : y.state = x.state
  range   : x.inRange → y.inRange
  owed    : y.resyncOwed = true → x.resyncOwed = true ∨ full
  numbers : x.numbered → y.numbered
  slots   : x.sweep.slots = [] → y.sweep.slots = [] ∨ x.state = .waiting ∨ x.state = .active

/-- Two notices of one kind for one element under one binding (R106). -/
def Notice.sameAs (x n : Notice) : Prop :=
  x.kind = n.kind ∧ x.index = n.index ∧ x.module = n.module ∧ x.element = n.element

/-- No untaken notice is of the kind, element and binding of `n`. -/
def State.fresh (s : State) (n : Notice) : Prop := ∀ l, ∀ x ∈ (s.lane l).fifo, ¬ x.sameAs n

/-- The counters within their ranges (R11, R43, R113, R131, R143, R145). -/
def Counters.inRange (c : Counters) : Prop :=
  c.surfaceErrors ≤ 65535 ∧ c.consoleErrors ≤ 65535 ∧ c.misaddressed ≤ 65535 ∧ c.rangeErrors ≤ 65535 ∧
    c.discarded ≤ 65535 ∧ c.passDrops ≤ 65535 ∧ c.outboundDrops ≤ 65535 ∧ c.requestDrops ≤ 65535

/-! ## Strokes -/

/-- An update of one part of the state, with its guard. -/
inductive Stroke (L : License) : State → State → Prop
  | elements {s : State} (es : List (Nat × Element)) (table : s.tableOk → State.tableOk { s with elements := es })
      (moves : ∀ i, (s.element i).control.Moves L.sound (L.wake i) s.full (Table.get .cold es i).control) :
      Stroke L s { s with elements := es }
  | push {s : State} (n : Notice) (pool : s.queued + s.noticeInFlight < 128)
      (fresh : n.kind = .turn ∨ n.kind = .level → s.fresh n) : Stroke L s (s.pushNotice n)
  | overflow {s : State} (l : Fin 8) : Stroke L s (s.countOverflow l)
  | amend {s : State} (l : Fin 8) (a b : List Notice) (n x : Notice) (fifo : (s.lane l).fifo = a ++ n :: b)
      (subject : x.kind = n.kind ∧ x.index = n.index)
      (place : x.module = n.module ∧ x.element = n.element ∨ s.fresh x) :
      Stroke L s (s.setLane l { s.lane l with fifo := a ++ x :: b })
  | modules {s : State} (v : Vector Module 62) (moves : ∀ m : ModuleIx, (s.module m).Moves s.full v[m])
      (slots : State.slotsUsed { s with modules := v } ≤ s.slotsUsed ∨ State.slotsUsed { s with modules := v } ≤ 256) :
      Stroke L s { s with modules := v }
  | send {s : State} (f : Frame) (forwarded : Bool) (may : L.send) (free : s.outbound.length < 32)
      (limit : forwarded = true → s.forwardedCount < 28) : Stroke L s (s.pushOut f forwarded)
  | counts {s : State} (c : Counters) (n : Nat) (counters : s.counters.inRange → c.inRange)
      (lost : s.systemLost ≤ 255 → n ≤ 255) : Stroke L s { s with counters := c, systemLost := n }
  | capture {s : State} (c : CaptureRing) (held : s.capture.heldCount ≤ 256 → c.heldCount ≤ 256)
      (dropped : s.capture.dropped ≤ 65535 → c.dropped ≤ 65535) : Stroke L s { s with capture := c }
  | pace {s : State} (p : Pace) (owed : Bool) (only : owed = true → s.paceOwed = true ∨ s.full) :
      Stroke L s { s with chainPace := p, paceOwed := owed }

/-- A run of strokes. -/
abbrev Touch (L : License) : State → State → Prop := Relation.ReflTransGen (Stroke L)

variable {L : License} {s t u : State} {i : Nat} {m : ModuleIx}

theorem Touch.trans (h : Touch L s t) (h' : Touch L t u) : Touch L s u := Relation.ReflTransGen.trans h h'

theorem Touch.of {s t : State} (h : Stroke L s t) : Touch L s t := Relation.ReflTransGen.single h

/-- A fold of operations is a run of strokes where each of them is. -/
theorem touch_foldl {α : Type} {f : State → α → State} (l : List α) (h : ∀ s, ∀ a ∈ l, Touch L s (f s a)) (s : State) :
    Touch L s (l.foldl f s) := by
  induction l generalizing s with
  | nil => exact .refl
  | cons a l ih => exact (h s a (by simp)).trans (ih (fun s b hb => h s b (by simp [hb])) _)

/-! ## Controls -/

theorem Control.Moves.refl (r w f : Prop) (c : Control) : c.Moves r w f c := ⟨rfl, fun _ => id, .inl, .inl⟩

/-- A key's context changed: in range, at rest and without a new echo owed. -/
theorem Control.Moves.key {r w f : Prop} {p : KeyParams} {c d : KeyCtx}
    (settle : p.debounceDown ≤ 15 → p.debounceUp ≤ 15 → c.settle ≤ 15 → d.settle ≤ 15)
    (bounce : c.bounce ≤ 255 → d.bounce ≤ 255) (sent : c.sent ≤ 255 → d.sent ≤ 255)
    (rest : c.closed = false → c.timer = none → c.repeatDue = false →
      d.closed = false ∧ d.timer = none ∧ d.repeatDue = false ∨ w)
    (echo : d.echoPending = true → c.echoPending = true ∨ f) : (Control.key p c).Moves r w f (.key p d) where
  cls := rfl
  range := fun _ ⟨h1, h2, h3, h4, h5⟩ => ⟨h1, h2, settle h1 h2 h3, bounce h4, sent h5⟩
  rest := fun ⟨h1, h2, h3⟩ => rest h1 h2 h3
  echo := fun ⟨h1, h2⟩ => (echo h2).imp (⟨h1, ·⟩) id

/-- An encoder's context changed, in range. -/
theorem Control.Moves.encoder {r w f : Prop} {p : EncoderParams} {c d : EncoderCtx}
    (range : (Control.encoder p c).inRange → (Control.encoder p d).inRange) :
    (Control.encoder p c).Moves r w f (.encoder p d) := ⟨rfl, fun _ => range, fun _ => .inl trivial, fun h => h.elim⟩

/-- A level's context changed: in range and at rest. -/
theorem Control.Moves.level {r w f : Prop} {p : LevelParams} {c d : LevelCtx} (raw : r → c.raw ≤ 1023 → d.raw ≤ 1023)
    (given : r → c.raw ≤ 1023 → (∀ v, c.lastGiven = some v → v ≤ 1023) → ∀ v, d.lastGiven = some v → v ≤ 1023)
    (held : r → (∀ v, c.held = some v → v ≤ 1023) → ∀ v, d.held = some v → v ≤ 1023)
    (rest : c.timer = none → d.timer = none ∨ w) : (Control.level p c).Moves r w f (.level p d) where
  cls := rfl
  range := fun r ⟨h1, h2, h3, h4, h5, h6, h7⟩ => ⟨h1, h2, h3, h4, raw r h5, given r h5 h6, held r h7⟩
  rest := rest
  echo := fun h => h.elim

/-- A carry of at most 32767 in either direction is in range (R104). -/
theorem Control.inRange_carry {p : EncoderParams} {c : EncoderCtx} (h : (Control.encoder p c).inRange) {r : Int} (b : Bool)
    (lower : -32767 ≤ r) (upper : r ≤ 32767) : (Control.encoder p { c with carry := r, carryOwed := b }).inRange := by
  obtain ⟨h1, h2, h3, h4, h5, h6, h7, -, -, h10⟩ := h
  exact ⟨h1, h2, h3, h4, h5, h6, h7, lower, upper, h10⟩

theorem Control.Moves.raw {r w f : Prop} {x y : Option Word} : (Control.raw x).Moves r w f (.raw y) :=
  ⟨rfl, fun _ => id, .inl, .inl⟩

theorem Control.eq_ignore_of_classByte {c : Control} (h : c.classByte = 0) : c = .ignore := by
  cases c <;> simp [Control.classByte] at h ⊢

/-- An index whose control is not Ignore is listed. -/
theorem State.mem_elements (h : (s.element i).control ≠ .ignore) : (i, s.element i) ∈ s.elements :=
  Table.mem_of_get_ne fun e => h (by rw [State.element, e]; rfl)

/-- A write keeps the table canonical: of a listed index, of an index below 1024, or of the cold element. -/
theorem State.tableOk_setElement (h : s.tableOk) {e : Element}
    (hi : e = .cold ∨ (s.element i).control ≠ .ignore ∨ i < 1024) : (s.setElement i e).tableOk := by
  refine ⟨Table.wf_put h.1, fun p hp => ?_⟩
  rcases Table.mem_put hp with ⟨rfl, hne⟩ | hp
  · rcases hi with hi | hi | hi
    · exact absurd hi hne
    · exact h.2 (i, s.element i) (State.mem_elements hi)
    · exact hi
  · exact h.2 p hp

/-- A control of the same class keeps the table canonical. -/
theorem State.tableOk_setControl (ht : s.tableOk) {c : Control} (cls : c.classByte = (s.element i).control.classByte) :
    (s.setControl i c).tableOk := by
  by_cases hc : (s.element i).control = .ignore
  · have hc' : c = .ignore := Control.eq_ignore_of_classByte (by rw [cls, hc]; rfl)
    have same : s.setControl i c = s.setElement i (s.element i) := by rw [State.setControl, hc', ← hc]
    rw [same]
    by_cases cold : s.element i = .cold
    · exact State.tableOk_setElement ht (.inl cold)
    · exact State.tableOk_setElement ht (.inr (.inr (ht.2 _ (Table.mem_of_get_ne cold))))
  · exact State.tableOk_setElement ht (.inr (.inl hc))

theorem touch_setControl {c : Control} (h : (s.element i).control.Moves L.sound (L.wake i) s.full c) :
    Touch L s (s.setControl i c) := by
  refine .of (.elements _ (fun ht => State.tableOk_setControl ht h.cls) fun j => ?_)
  show (s.element j).control.Moves _ _ _ ((s.setControl i c).element j).control
  by_cases hj : j = i
  · subst hj; simpa using h
  · rw [State.element_setControl_of_ne _ hj]; exact .refl _ _ _ _

/-- A change of every control that keeps each class. -/
theorem touch_mapControls {f : Nat → Control → Control}
    (h : ∀ i (c : Control), c.Moves L.sound (L.wake i) s.full (f i c)) : Touch L s (s.mapControls f) := by
  have ignored : ∀ i, f i .ignore = .ignore := fun i => Control.eq_ignore_of_classByte (by rw [(h i _).cls]; rfl)
  refine .of (.elements _ (fun ht => ?_) fun j => ?_)
  · obtain ⟨canonical, below⟩ := ht
    refine ⟨?_, fun p hp => ?_⟩
    · show Table.wf Element.cold (s.elements.map _) = true
      have key : ∀ es : List (Nat × Element), Table.wf Element.cold es = true →
          Table.wf Element.cold (es.map fun p => (p.1, { p.2 with control := f p.1 p.2.control })) = true := by
        intro es
        induction es with
        | nil => exact id
        | cons p es ih =>
          obtain ⟨j, e⟩ := p
          have above : ∀ es : List (Nat × Element), Table.above j es = true →
              Table.above j (es.map fun p => (p.1, { p.2 with control := f p.1 p.2.control })) = true := by
            intro es
            induction es with
            | nil => exact id
            | cons q es ih => simp only [List.map_cons, Table.above, Bool.and_eq_true]; exact fun h => ⟨h.1, ih h.2⟩
          simp only [List.map_cons, Table.wf, Bool.and_eq_true, decide_eq_true_eq]
          rintro ⟨⟨hne, ha⟩, hw⟩
          refine ⟨⟨fun cold => hne ?_, above es ha⟩, ih hw⟩
          obtain ⟨l, c⟩ := e
          simp only [Element.cold, Element.mk.injEq] at cold ⊢
          refine ⟨cold.1, Control.eq_ignore_of_classByte ?_⟩
          rw [← (h j c).cls, cold.2]; rfl
      exact key _ canonical
    · obtain ⟨q, hq, rfl⟩ := List.mem_map.mp hp
      exact below q hq
  · show (s.element j).control.Moves _ _ _ ((s.mapControls f).element j).control
    rw [State.element_mapControls ignored]
    exact h j _

section Contexts
variable {f : KeyCtx → KeyCtx} {g : EncoderCtx → EncoderCtx} {h : LevelCtx → LevelCtx}

theorem touch_updKey (k : ∀ p c, (s.element i).control = .key p c →
    (Control.key p c).Moves L.sound (L.wake i) s.full (.key p (f c))) : Touch L s (s.updKey i f) := by
  unfold State.updKey
  split
  · rename_i p c hc; exact touch_setControl (by rw [hc]; exact k p c hc)
  · exact .refl

theorem touch_updEncoder (k : ∀ p c, (s.element i).control = .encoder p c →
    (Control.encoder p c).inRange → (Control.encoder p (g c)).inRange) : Touch L s (s.updEncoder i g) := by
  unfold State.updEncoder
  split
  · rename_i p c hc; exact touch_setControl (by rw [hc]; exact .encoder (k p c hc))
  · exact .refl

theorem touch_updLevel (k : ∀ p c, (s.element i).control = .level p c →
    (Control.level p c).Moves L.sound (L.wake i) s.full (.level p (h c))) : Touch L s (s.updLevel i h) := by
  unfold State.updLevel
  split
  · rename_i p c hc; exact touch_setControl (by rw [hc]; exact k p c hc)
  · exact .refl

end Contexts

/-! ## Counts -/

theorem bump_le {top n b : Nat} (h : n ≤ b) (ht : top ≤ b) : bump top n ≤ b := by unfold bump; split <;> omega

section Counts
variable (s)
theorem touch_countFrameError (p : Port) : Touch L s (s.countFrameError p) := by
  cases p
  · exact .of (.counts _ s.systemLost (fun ⟨h1, h⟩ => ⟨bump_le h1 le_rfl, h⟩) id)
  · exact .of (.counts _ s.systemLost (fun ⟨h1, h2, h⟩ => ⟨h1, bump_le h2 le_rfl, h⟩) id)
theorem touch_countMisaddressed : Touch L s s.countMisaddressed :=
  .of (.counts _ s.systemLost (fun ⟨h1, h2, h3, h⟩ => ⟨h1, h2, bump_le h3 le_rfl, h⟩) id)
theorem touch_countRangeError : Touch L s s.countRangeError :=
  .of (.counts _ s.systemLost (fun ⟨h1, h2, h3, h4, h⟩ => ⟨h1, h2, h3, bump_le h4 le_rfl, h⟩) id)
theorem touch_countDiscarded : Touch L s s.countDiscarded :=
  .of (.counts _ s.systemLost (fun ⟨h1, h2, h3, h4, h5, h⟩ => ⟨h1, h2, h3, h4, bump_le h5 le_rfl, h⟩) id)
theorem touch_countPassDrop : Touch L s s.countPassDrop :=
  .of (.counts _ s.systemLost (fun ⟨h1, h2, h3, h4, h5, h6, h⟩ => ⟨h1, h2, h3, h4, h5, bump_le h6 le_rfl, h⟩) id)
theorem touch_countOutboundDrop : Touch L s s.countOutboundDrop :=
  .of (.counts _ s.systemLost (fun ⟨h1, h2, h3, h4, h5, h6, h7, h⟩ =>
    ⟨h1, h2, h3, h4, h5, h6, bump_le h7 le_rfl, h⟩) id)
theorem touch_countRequestDrop : Touch L s s.countRequestDrop :=
  .of (.counts _ s.systemLost (fun ⟨h1, h2, h3, h4, h5, h6, h7, h8⟩ =>
    ⟨h1, h2, h3, h4, h5, h6, h7, bump_le h8 le_rfl⟩) id)
theorem touch_countSystemLost : Touch L s s.countSystemLost :=
  .of (.counts s.counters _ id fun h => bump_le h le_rfl)
end Counts

/-! ## The notice queue -/

theorem touch_setStale (s : State) (i : Nat) : Touch L s (s.setStale i) := by
  unfold State.setStale
  split
  · rename_i p c hc
    exact touch_setControl (by rw [hc]; exact .key (fun _ _ => id) id id (fun h1 h2 h3 => .inl ⟨h1, h2, h3⟩) .inl)
  · rename_i p c hc
    exact touch_setControl (by rw [hc]; exact .level (fun _ => id) (fun _ _ => id) (fun _ => id) .inl)
  · exact .refl

theorem touch_noticeLost (n : Notice) (s : State) : Touch L s (noticeLost n s) := by
  unfold noticeLost
  repeat' split
  all_goals first
    | exact .refl
    | exact touch_setStale _ _
    | exact touch_countDiscarded _
    | exact touch_countSystemLost _

/-- A kind of which an element may have more than one notice wait (R106). -/
def NoticeKind.free : NoticeKind → Bool
  | .turn => false
  | .level => false
  | _ => true

theorem touch_push {n : Notice} (pool : s.queued + s.noticeInFlight < 128) (fresh : n.kind.free = true ∨ s.fresh n) :
    Touch L s (s.pushNotice n) := by
  refine .of (.push n pool fun hk => fresh.resolve_left fun free => ?_)
  rcases hk with hk | hk <;> simp [hk, NoticeKind.free] at free

theorem touch_notify {n : Notice} (fresh : n.kind.free = true ∨ s.fresh n) : Touch L s (notify n s) := by
  unfold notify
  split
  · exact touch_push ((s.room_iff _).mp ‹_›).2 fresh
  · exact (Touch.of (.overflow _)).trans (touch_noticeLost _ _)

theorem touch_giveNotice {k : NoticeKind} (i : Nat) (v : Int) (z : Option Zone) (f : Flags) (s : State)
    (free : k.free = true := by rfl) : Touch L s (giveNotice i k v z f s) := by
  unfold giveNotice State.elementNotice
  cases s.bound i
  · exact .refl
  · exact touch_notify (.inl free)

/-- A notice of an element is fresh where none of its kind waits under the present binding (R106). -/
theorem State.fresh_of_hasUntaken {k : NoticeKind} {v : Int} {z : Option Zone} {f : Flags} {n : Notice}
    (h : s.hasUntaken (s.isFor i k) = false) (hn : s.elementNotice i k v z f = some n) : s.fresh n := by
  intro l x hx ⟨h1, h2, h3, h4⟩
  have none_waits := (Bool.eq_false_iff.mp h) ∘ (s.hasUntaken_iff _).mpr
  refine none_waits ⟨l, x, hx, (s.isFor_iff _ _ _).mpr ?_⟩
  cases hb : s.bound i with
  | none => rw [State.elementNotice, hb] at hn; cases hn
  | some m =>
    rw [State.elementNotice_of_bound hb] at hn
    cases hn
    exact ⟨h2, h1, m, rfl, h3, h4⟩

/-- What is written over an untaken notice keeps its kind and element index, and its binding or a fresh one. -/
theorem touch_amend {y : Notice → Bool} {f : Notice → Notice} (subject : ∀ n, (f n).kind = n.kind ∧ (f n).index = n.index)
    (place : ∀ n, y n = true → s.findUntaken y = some n →
      (f n).module = n.module ∧ (f n).element = n.element ∨ s.fresh (f n)) :
    Touch L s (amend y f s) := by
  cases h : s.findUntaken y with
  | none => rw [amend_of_findUntaken_eq_none f h]
  | some n =>
    obtain ⟨l, a, b, parts, hy, -, -, changed⟩ := amend_of_findUntaken f h
    rw [changed]
    exact .of (.amend l a b n _ parts (subject n) (place n hy h))

/-! ## Turns -/

theorem clampTo_bounds {b : Nat} (x : Int) : -(b : Int) ≤ clampTo b x ∧ clampTo b x ≤ b := by unfold clampTo; omega

theorem touch_oweCarry {r : Int} (hr : ∀ p c, (s.element i).control = .encoder p c → (Control.encoder p c).inRange →
    -32767 ≤ r ∧ r ≤ 32767) : Touch L s (oweCarry i r s) :=
  touch_updEncoder fun p c hc h => Control.inRange_carry h true (hr p c hc h).1 (hr p c hc h).2

/-- A turn of at most 32 placed for an element (R104). -/
theorem touch_placeTurn {d : Int} (hd : ∀ p c, (s.element i).control = .encoder p c → (Control.encoder p c).inRange →
    -32 ≤ d ∧ d ≤ 32) : Touch L s (placeTurn i d s) := by
  unfold placeTurn
  split
  case h_2 => exact .refl
  rename_i p c hc
  have bound : (Control.encoder p c).inRange → -32 ≤ d ∧ d ≤ 32 := hd p c hc
  have limit : (Control.encoder p c).inRange → (p.limit : Int) ≤ 127 := fun h => by exact_mod_cast h.2.1
  have mine : ∀ {q e}, (s.element i).control = .encoder q e → (Control.encoder q e).inRange →
      q = p ∧ (Control.encoder p c).inRange := by
    intro q e hq he
    rw [hc] at hq; cases hq
    exact ⟨rfl, he⟩
  split
  · refine touch_updEncoder fun q e hq h => ?_
    obtain ⟨lower, upper⟩ := clampTo_bounds (b := 32767) (e.carry + d)
    exact Control.inRange_carry h e.carryOwed lower upper
  · split
    · rename_i q hq
      have kept : ∀ v : Int, Touch L s (amend (s.isFor i .turn) (fun n => { n with value := v }) s) := fun v =>
        touch_amend (fun _ => ⟨rfl, rfl⟩) fun _ _ _ => .inl ⟨rfl, rfl⟩
      split
      · exact kept _
      · split
        · rename_i turn
          rw [within_iff] at turn
          refine (kept _).trans (touch_oweCarry fun q' e hq' he => ?_)
          rw [amend_element] at hq'
          obtain ⟨-, he⟩ := mine hq' he
          have := bound he; have := limit he
          have := clampTo_bounds (b := p.limit) (q.value + d)
          omega
        · refine touch_oweCarry fun q' e hq' he => ?_
          obtain ⟨-, he⟩ := mine hq' he
          have := bound he
          omega
    · rename_i hq
      have waits : s.hasUntaken (s.isFor i .turn) = false := by
        have := (s.findUntaken_eq_none_iff _).mp hq
        rw [Bool.eq_false_iff, ne_eq, State.hasUntaken_iff]
        rintro ⟨l, n, hn, hy⟩
        rw [this l n hn] at hy; cases hy
      split
      · rename_i n hn
        have fresh : s.fresh n := State.fresh_of_hasUntaken waits hn
        split
        · have pushed : Touch L s (s.pushNotice n) := touch_push ((s.room_iff _).mp ‹_›).2 (.inr fresh)
          split
          · exact pushed
          · refine pushed.trans (touch_oweCarry fun q' e hq' he => ?_)
            obtain ⟨-, he⟩ := mine hq' he
            have := bound he; have := limit he
            have := clampTo_bounds (b := p.limit) d
            omega
        · refine (Touch.of (.overflow _)).trans (touch_oweCarry fun q' e hq' he => ?_)
          obtain ⟨-, he⟩ := mine hq' he
          have := bound he
          omega
      · exact .refl

/-! ## The service pass -/

theorem touch_pushOwed {k : NoticeKind} {v : Int} {z : Option Zone} {f : Flags}
    (pool : s.queued + s.noticeInFlight < 128) (fresh : k.free = true ∨ s.hasUntaken (s.isFor i k) = false) :
    Touch L s (pushOwed i k v z f s) := by
  unfold pushOwed
  split
  · rename_i n hn
    refine touch_push pool (fresh.imp (fun h => ?_) fun h => State.fresh_of_hasUntaken h hn)
    have : n.kind = k := by
      cases hb : s.bound i with
      | none => rw [State.elementNotice, hb] at hn; cases hn
      | some m => rw [State.elementNotice_of_bound hb] at hn; cases hn; rfl
    rwa [this]
  · exact .refl

theorem State.hasUntaken_of_not_serviceBlocked (h : s.serviceBlocked i = false) {k : NoticeKind}
    (hk : k = .turn ∨ k = .level) (hb : blockingKind (s.element i).control k = true) :
    s.hasUntaken (s.isFor i k) = false := by
  simp only [State.serviceBlocked, List.any_eq_false, Bool.not_eq_true, Bool.and_eq_false_iff] at h
  have := h k (by rcases hk with rfl | rfl <;> simp)
  simpa [hb] using this

theorem touch_clearStale (s : State) (i : Nat) : Touch L s (s.updKey i fun c => { c with stale := false }) :=
  touch_updKey fun _ _ _ => .key (fun _ _ => id) id id (fun h1 h2 h3 => .inl ⟨h1, h2, h3⟩) .inl

theorem touch_serveElement (pool : s.queued + s.noticeInFlight < 128)
    (free : s.keyMode i = some .pressOnly ∨ s.serviceBlocked i = false) : Touch L s (serveElement i s) := by
  unfold serveElement
  split
  · rename_i p c hc
    refine Touch.trans ?_ (touch_clearStale _ i)
    cases p.mode with
    | both => exact touch_pushOwed pool (.inl (by split <;> rfl))
    | toggle => exact touch_pushOwed pool (.inl rfl)
    | pressOnly => exact .refl
  · rename_i p c hc
    have clear := free.resolve_left (by simp [State.keyMode, hc])
    refine (touch_pushOwed pool (.inr (State.hasUntaken_of_not_serviceBlocked clear (.inr rfl) (by rw [hc]; rfl)))).trans
      (touch_updLevel fun q e _ => .level (fun _ => id) (fun _ h _ v hv => ?_) (fun _ _ v hv => by cases hv) .inl)
    cases hv; exact h
  · rename_i p c hc
    have clear := free.resolve_left (by simp [State.keyMode, hc])
    refine Touch.trans (t := if c.carry = 0 then s else pushOwed i .turn c.carry none { resync := true } s) ?_
      (touch_updEncoder fun q e _ h => Control.inRange_carry h false (by decide) (by decide))
    split
    · exact .refl
    · exact touch_pushOwed pool (.inr (State.hasUntaken_of_not_serviceBlocked clear (.inl rfl) (by rw [hc]; rfl)))
  · exact .refl
  · exact .refl

theorem State.freeSlots_eq_zero_iff (s : State) : s.freeSlots = 0 ↔ 128 ≤ s.queued + s.noticeInFlight := by
  unfold State.freeSlots Config.poolSlots; omega

theorem touch_serveLane (l : Fin 8) (is : List Nat) (s : State) : Touch L s (serveLane l is s) := by
  induction is generalizing s with
  | nil => exact .refl
  | cons i is ih =>
    unfold serveLane
    split
    · exact .refl
    · rename_i slots
      have pool : s.queued + s.noticeInFlight < 128 := by rw [State.freeSlots_eq_zero_iff] at slots; omega
      split
      · exact (touch_serveElement pool (.inl ‹_›)).trans (ih _)
      · split
        · exact ih _
        · split
          · exact (touch_serveElement pool (.inr (by simpa using ‹¬ s.serviceBlocked i = true›))).trans (ih _)
          · exact .refl

theorem touch_serveOverflow (s : State) : Touch L s (serveOverflow s) := by
  unfold serveOverflow
  split
  · rename_i h
    exact (touch_push (n := systemNotice .overflow 0 0 s.systemLost) ((s.room_iff _).mp h.2).2
      (.inl rfl)).trans (Touch.of (.counts _ 0 id fun _ => Nat.zero_le _))
  · exact .refl

theorem touch_servicePass (s : State) : Touch L s (servicePass s) :=
  (touch_serveOverflow s).trans (touch_foldl _ (fun t l _ => touch_serveLane l _ t) _)

end Sys2Proof.Machine

/-! # The strokes of the merger, the element processor, the capture ring and the sweep assembler -/

namespace Sys2Proof.Machine

variable {L : License} {s t u : State} {i : Nat} {m : ModuleIx}

/-! ## The merger -/

theorem touch_pushOut (may : L.send) (f : Frame) (free : s.outboundRoom = true) : Touch L s (s.pushOut f false) :=
  .of (.send f false may ((s.outboundRoom_iff).mp free) nofun)

theorem State.acceptsForwarded_iff (s : State) :
    s.acceptsForwarded = true ↔ s.forwardedCount < 28 ∧ s.outbound.length < 32 := by
  simp [State.acceptsForwarded, State.outboundRoom_iff, Config.forwardedLimit]

theorem touch_forward (may : L.send) (f : Frame) (accepts : s.acceptsForwarded = true) : Touch L s (s.pushOut f true) := by
  obtain ⟨limit, free⟩ := s.acceptsForwarded_iff.mp accepts
  exact .of (.send f true may free fun _ => limit)

/-- A watched key keeps its accepted state and its timer, and owes no echo. -/
theorem touch_watchIndicator (a : BitVec 6) (n : Nat) (on : Bool) (x : Option Nat) (s : State) :
    Touch L s (watchIndicator a n on x s) := by
  refine touch_mapControls fun i c => ?_
  split
  · cases c with
    | key p c => exact .key (fun _ _ => id) id id (fun h1 h2 h3 => .inl ⟨h1, h2, h3⟩) (by intro h; cases h)
    | ignore => exact .refl _ _ _ _
    | encoder p c => exact .refl _ _ _ _
    | level p c => exact .refl _ _ _ _
    | raw w => exact .refl _ _ _ _
  · exact .refl _ _ _ _

theorem touch_pushIndicator (may : L.send) (m : ModuleIx) (n : Fin 64) (on : Bool) (i : Nat)
    (free : s.outboundRoom = true) : Touch L s (pushIndicator m n on i s) :=
  (touch_pushOut may _ free).trans (touch_watchIndicator _ _ _ _ _)

theorem State.full_of_no_room (h : ¬ s.outboundRoom = true) : s.full := by
  rw [State.outboundRoom_iff] at h; unfold State.full; omega

theorem touch_requestPace (may : L.send) (s : State) : Touch L s (requestPace s) := by
  unfold requestPace
  split
  · exact touch_pushOut may _ ‹_›
  · exact .of (.pace s.chainPace true fun _ => .inr (State.full_of_no_room ‹_›))

/-! ## Modules -/

theorem Module.Moves.refl (f : Prop) (x : Module) : x.Moves f x := ⟨rfl, rfl, id, .inl, id, .inl⟩

theorem State.module_of_modules (v : Vector Module 62) (m : ModuleIx) : State.module { s with modules := v } m = v[m] := rfl

/-- Every module changed, none of them in its slots. -/
theorem touch_modules {v : Vector Module 62} (moves : ∀ m : ModuleIx, (s.module m).Moves s.full v[m])
    (slots : ∀ m : ModuleIx, v[m].sweep.slots.length ≤ (s.module m).sweep.slots.length) :
    Touch L s { s with modules := v } := by
  refine .of (.modules v moves (.inl ?_))
  exact List.sum_le_sum fun m _ => slots m

/-- A sum over a fixed table in which one entry changes. -/
theorem sum_finRange_of_eq_beside {n : Nat} {f g : Fin n → Nat} (i : Fin n) (h : ∀ j, j ≠ i → g j = f j) :
    ((List.finRange n).map g).sum + f i = ((List.finRange n).map f).sum + g i := by
  have beside : ∑ j ∈ Finset.univ.erase i, g j = ∑ j ∈ Finset.univ.erase i, f j :=
    Finset.sum_congr rfl fun j hj => h j (Finset.ne_of_mem_erase hj)
  rw [← Fin.sum_univ_def, ← Fin.sum_univ_def, ← Finset.sum_erase_add _ g (Finset.mem_univ i),
    ← Finset.sum_erase_add _ f (Finset.mem_univ i), beside]
  omega

theorem State.slotsUsed_setModule (s : State) (m : ModuleIx) (x : Module) :
    (s.setModule m x).slotsUsed + (s.module m).sweep.slots.length = s.slotsUsed + x.sweep.slots.length := by
  have := sum_finRange_of_eq_beside (f := fun k => (s.module k).sweep.slots.length)
    (g := fun k => ((s.setModule m x).module k).sweep.slots.length) m
    fun k hk => by rw [State.module_setModule_of_ne _ hk]
  rwa [State.module_setModule] at this

theorem touch_setModule {x : Module} (moves : (s.module m).Moves s.full x)
    (slots : x.sweep.slots.length ≤ (s.module m).sweep.slots.length ∨ (s.setModule m x).slotsUsed ≤ 256) :
    Touch L s (s.setModule m x) := by
  refine .of (.modules (s.modules.set m x) (fun k => ?_) ?_)
  · show (s.module k).Moves _ ((s.setModule m x).module k)
    by_cases h : k = m
    · subst h; rwa [State.module_setModule]
    · rw [State.module_setModule_of_ne _ h]; exact .refl _ _
  · refine slots.imp (fun h => ?_) id
    show (s.setModule m x).slotsUsed ≤ s.slotsUsed
    have := s.slotsUsed_setModule m x
    omega

/-- A module changed, but for its sweep. -/
theorem touch_updModule {f : Module → Module} (moves : ∀ x, (s.module m) = x → x.Moves s.full (f x))
    (slots : ∀ x, (f x).sweep.slots.length ≤ x.sweep.slots.length) : Touch L s (s.updModule m f) :=
  touch_setModule (moves _ rfl) (.inl (slots _))

/-- A module changed in what the invariants of the sweep assembler do not speak of. -/
theorem Module.Moves.plain {f : Prop} {x y : Module} (entry : y.entry = x.entry) (state : y.state = x.state)
    (owed : y.resyncOwed = true → x.resyncOwed = true ∨ f) (range : x.inRange → y.inRange)
    (slots : y.sweep.slots = x.sweep.slots) : x.Moves f y where
  entry := entry
  state := state
  range := range
  owed := owed
  numbers := fun h z hz => by rw [entry]; exact h z (slots ▸ hz)
  slots := fun h => .inl (slots ▸ h)

theorem touch_requestResync (may : L.send) (m : ModuleIx) (s : State) : Touch L s (requestResync m s) := by
  unfold requestResync
  split
  · exact touch_pushOut may _ ‹_›
  · exact touch_setModule (.plain rfl rfl (fun _ => .inr (State.full_of_no_room ‹_›)) id rfl) (.inl le_rfl)

theorem touch_requestEcho (may : L.send) (i : Nat) (s : State) : Touch L s (requestEcho i s) := by
  unfold requestEcho
  repeat' split
  · exact touch_pushIndicator may _ _ _ _ ‹_›
  · exact touch_updKey fun _ _ _ => .key (fun _ _ => id) id id (fun h1 h2 h3 => .inl ⟨h1, h2, h3⟩)
      fun _ => .inr (State.full_of_no_room ‹_›)
  all_goals exact .refl

theorem touch_requestOff (may : L.send) (m : ModuleIx) (n : Fin 64) (i : Nat) (s : State) :
    Touch L s (requestOff m n i s) := by
  unfold requestOff
  split
  · exact touch_pushIndicator may _ _ _ _ ‹_›
  · exact .refl

theorem touch_setChainPace (p : Pace) (s : State) : Touch L s (setChainPace p s) := by
  unfold setChainPace
  split
  · refine (Touch.of (.pace .slow s.paceOwed .inl)).trans (touch_modules (fun m => ?_) fun m => ?_)
    · simp only [Fin.getElem_fin, mapAll_get]
      exact .plain rfl rfl .inl id rfl
    · simp only [Fin.getElem_fin, mapAll_get]
      exact le_rfl
  · exact .of (.pace .brisk s.paceOwed .inl)
  · exact .refl
  · exact .refl

theorem touch_toldApplied (may : L.send) (b : Bool) (s : State) : Touch L s (toldApplied b s) := by
  unfold toldApplied
  repeat' split
  · exact (touch_setChainPace _ _).trans (touch_requestPace may _)
  · exact .refl
  · exact (touch_setChainPace _ _).trans (touch_requestPace may _)
  · exact .refl

theorem touch_toldJoined (may : L.send) (s : State) : Touch L s (toldJoined s) := by
  unfold toldJoined
  split
  · exact .refl
  · exact (touch_setChainPace _ _).trans (touch_requestPace may _)

theorem touch_mergeFrame (may : L.send) (f : Frame) (s : State) : Touch L s (mergeFrame f s) := by
  unfold mergeFrame
  split
  · exact touch_forward may f ‹_›
  · exact touch_countOutboundDrop s

theorem touch_mergeIndicator (may : L.send) (f : Frame) (n mode : Byte) (s : State) :
    Touch L s (mergeIndicator f n mode s) := by
  unfold mergeIndicator
  split
  · exact (touch_forward may f ‹_›).trans (touch_watchIndicator _ _ _ _ _)
  · exact touch_countOutboundDrop s

theorem touch_mergePace (may : L.send) (f : Frame) (p : Byte) (s : State) : Touch L s (mergePace f p s) := by
  unfold mergePace
  split
  · exact ((touch_forward may f ‹_›).trans (touch_setChainPace _ _)).trans (.of (.pace _ false nofun))
  · exact touch_countOutboundDrop s

theorem touch_owedFrame (may : L.send) (free : s.outboundRoom = true) (h : owedFrame s = some t) : Touch L s t := by
  unfold owedFrame at h
  split at h
  · cases h
    exact (touch_pushOut may _ free).trans (.of (.pace _ false nofun))
  · split at h
    · cases h
      exact (touch_pushOut may _ free).trans
        (touch_setModule (s := s.pushOut _ false) (.plain rfl rfl nofun id rfl) (.inl le_rfl))
    · split at h
      · cases h
        exact (touch_pushIndicator may _ _ _ _ free).trans
          (touch_updKey fun _ _ _ => .key (fun _ _ => id) id id (fun h1 h2 h3 => .inl ⟨h1, h2, h3⟩) nofun)
      · cases h

theorem touch_owedFrames (may : L.send) (n : Nat) (s : State) : Touch L s (owedFrames n s) := by
  induction n generalizing s with
  | zero => exact .refl
  | succ n ih =>
    unfold owedFrames
    repeat' split
    · exact (touch_owedFrame may ‹_› ‹_›).trans (ih _)
    all_goals exact .refl

/-! ## Keys -/

section Keys

/-- A key's context changed in what is in range, at rest and owes no echo wherever it was so before. -/
theorem touch_updKey_plain {f : KeyCtx → KeyCtx} (settle : ∀ c, (f c).settle ≤ c.settle)
    (bounce : ∀ c, c.bounce ≤ 255 → (f c).bounce ≤ 255) (sent : ∀ c, c.sent ≤ 255 → (f c).sent ≤ 255)
    (rest : ∀ c, c.closed = false → c.timer = none → c.repeatDue = false →
      (f c).closed = false ∧ (f c).timer = none ∧ (f c).repeatDue = false ∨ L.wake i)
    (echo : ∀ c, (f c).echoPending = true → c.echoPending = true) : Touch L s (s.updKey i f) :=
  touch_updKey fun _ c _ => .key (fun _ _ h => (settle c).trans h) (bounce c) (sent c) (rest c) fun h => .inl (echo c h)

theorem touch_setEchoBit (b : Bool) (s : State) (i : Nat) : Touch L s (s.updKey i fun c => { c with echoBit := b }) :=
  touch_updKey_plain (fun _ => le_rfl) (fun _ => id) (fun _ => id) (fun _ h1 h2 h3 => .inl ⟨h1, h2, h3⟩) fun _ => id

theorem touch_desiredEcho (p : KeyParams) (s : State) (i : Nat) :
    Touch L s (s.updKey i fun c => { c with echoBit := desired p c }) :=
  touch_updKey_plain (fun _ => le_rfl) (fun _ => id) (fun _ => id) (fun _ h1 h2 h3 => .inl ⟨h1, h2, h3⟩) fun _ => id

theorem touch_echoAct (may : L.send) (i : Nat) (s : State) : Touch L s (echoAct i s) := by
  unfold echoAct
  split
  case h_2 => exact .refl
  split
  · dsimp only
    split
    · exact touch_desiredEcho _ _ _
    · exact (touch_desiredEcho _ _ _).trans (touch_requestEcho may _ _)
  · exact .refl

theorem touch_startRepeat (w : L.wake i) (s : State) : Touch L s (startRepeat i s) := by
  unfold startRepeat
  repeat' split
  · exact touch_updKey_plain (fun _ => le_rfl) (fun _ => id) (fun _ _ => Nat.zero_le _) (fun _ _ _ _ => .inr w) fun _ => id
  all_goals exact .refl

theorem touch_giveRepeat (w : L.wake i) (s : State) : Touch L s (giveRepeat i s) := by
  unfold giveRepeat
  split
  case h_2 => exact .refl
  rename_i p c hc
  dsimp only
  refine (Touch.trans (touch_updKey fun q e he => ?_) (touch_giveNotice _ _ _ _ _)).trans
    (touch_updKey_plain (fun _ => le_rfl) (fun _ => id) (fun _ => id) (fun _ _ _ _ => .inr w) fun _ => id)
  rw [hc] at he; cases he
  exact .key (fun _ _ => id) id (fun h => bump_le h le_rfl) (fun _ _ _ => .inr w) .inl

/-- The repeat's due mark set or the timer stopped: at an index that may wake, or one where a timer runs already. -/
theorem touch_repeatExpiry (w : L.wake i) (s : State) : Touch L s (repeatExpiry i s) := by
  unfold repeatExpiry
  repeat' split
  · exact touch_giveRepeat w s
  all_goals first
    | exact .refl
    | exact touch_updKey_plain (fun _ => le_rfl) (fun _ => id) (fun _ => id) (fun _ _ _ _ => .inr w) fun _ => id

theorem touch_keyReport (w : L.wake i) (v : Bool) (s : State) : Touch L s (keyReport i v s) := by
  unfold keyReport
  split
  case h_2 => exact .refl
  rename_i p c hc
  split
  · exact .refl
  split
  · have bounced : Touch L s (s.updKey i fun c =>
        { c with rawClosed := v, settle := 0, bounce := bump Config.countTop c.bounce }) :=
      touch_updKey_plain (fun _ => Nat.zero_le _) (fun _ h => bump_le h le_rfl) (fun _ => id)
        (fun _ h1 h2 h3 => .inl ⟨h1, h2, h3⟩) fun _ => id
    dsimp only
    split
    · exact bounced.trans (touch_giveRepeat w _)
    · exact bounced
  · refine touch_updKey fun q e he => ?_
    rw [hc] at he; cases he
    exact .key (fun h1 h2 _ => by dsimp only; split <;> assumption) id id (fun h1 h2 h3 => .inl ⟨h1, h2, h3⟩) .inl

theorem touch_acceptPress (w : L.wake i) (may : L.send) (s : State) : Touch L s (acceptPress i s) := by
  unfold acceptPress
  split
  case h_2 => exact .refl
  dsimp only
  have pressed : Touch L s (s.updKey i fun c => { c with closed := true, settle := 0, latched := !c.latched }) :=
    touch_updKey_plain (fun _ => Nat.zero_le _) (fun _ => id) (fun _ => id) (fun _ _ _ _ => .inr w) fun _ => id
  refine ((pressed.trans ?_).trans (touch_echoAct may _ _)).trans (touch_startRepeat w _)
  split <;> exact touch_giveNotice _ _ _ _ _

theorem touch_acceptRelease (may : L.send) (s : State) : Touch L s (acceptRelease i s) := by
  unfold acceptRelease
  split
  case h_2 => exact .refl
  rename_i p c hc
  dsimp only
  have opened : Touch L s (s.updKey i fun c => { c with closed := false, settle := 0, timer := none, repeatDue := false }) :=
    touch_updKey_plain (fun _ => Nat.zero_le _) (fun _ => id) (fun _ => id) (fun _ _ _ _ => .inl ⟨rfl, rfl, rfl⟩) fun _ => id
  cases p.mode <;> cases p.echoMode <;> dsimp only
  · exact (opened.trans (touch_giveNotice _ _ _ _ _)).trans (touch_echoAct may _ _)
  · exact opened.trans (touch_giveNotice _ _ _ _ _)
  · exact opened.trans (touch_echoAct may _ _)
  · exact opened
  · exact opened.trans (touch_echoAct may _ _)
  · exact opened

theorem touch_debounce (w : L.wake i) (may : L.send) (s : State) : Touch L s (debounce i s) := by
  have counted : Touch L s (s.updKey i fun c => { c with settle := c.settle - 1 }) :=
    touch_updKey_plain (fun _ => Nat.sub_le _ _) (fun _ => id) (fun _ => id) (fun _ h1 h2 h3 => .inl ⟨h1, h2, h3⟩) fun _ => id
  unfold debounce
  repeat' split
  all_goals first
    | exact .refl
    | exact touch_acceptPress w may s
    | exact touch_acceptRelease may s
    | exact counted

theorem touch_keyBaseline (w : L.wake i) (may : L.send) (v : Bool) (s : State) : Touch L s (keyBaseline i v s) := by
  unfold keyBaseline
  split
  case h_2 => exact .refl
  rename_i p c hc
  dsimp only
  have first : Touch L s (s.updKey i fun c =>
      { c with rawClosed := v, closed := v, settle := 0, timer := none, repeatDue := false, sent := 0 }) :=
    touch_updKey_plain (fun _ => Nat.zero_le _) (fun _ => id) (fun _ _ => Nat.zero_le _) (fun _ _ _ _ => .inr w) fun _ => id
  have rest : ∀ s2, Touch L s s2 → Touch L s (
      let s3 := if p.echo.isSome = true then
          let s3 := s2.updKey i fun c => { c with echoBit := desired p c }
          if c.echoPending = true then s3 else requestEcho i s3
        else s2
      if v = true then startRepeat i s3 else s3) := by
    intro s2 noticed
    have echoed : Touch L s (if p.echo.isSome = true then
          let s3 := s2.updKey i fun c => { c with echoBit := desired p c }
          if c.echoPending = true then s3 else requestEcho i s3
        else s2) := by
      split
      · dsimp only
        split
        · exact noticed.trans (touch_desiredEcho _ _ _)
        · exact noticed.trans ((touch_desiredEcho _ _ _).trans (touch_requestEcho may _ _))
      · exact noticed
    dsimp only at echoed ⊢
    split
    · exact echoed.trans (touch_startRepeat w _)
    · exact echoed
  cases p.mode with
  | toggle => exact rest _ (first.trans (touch_giveNotice _ _ _ _ _))
  | both =>
    refine rest _ ?_
    dsimp only
    split
    · exact first.trans (touch_giveNotice _ _ _ _ _)
    · exact first
  | pressOnly =>
    refine rest _ ?_
    dsimp only
    split
    · exact first.trans (touch_giveNotice _ _ _ _ _)
    · exact first

theorem touch_keyNoBaseline (s : State) : Touch L s (keyNoBaseline i s) :=
  touch_updKey_plain (fun _ => Nat.zero_le _) (fun _ => id) (fun _ => id) (fun _ _ h2 h3 => .inl ⟨rfl, h2, h3⟩) fun _ => id

theorem touch_openKey (s : State) : Touch L s (s.updKey i openKey) :=
  touch_updKey_plain (fun _ => Nat.zero_le _) (fun _ => id) (fun _ => id) (fun _ _ _ _ => .inl ⟨rfl, rfl, rfl⟩) fun _ => id

theorem touch_releaseKey (f : Flags) (s : State) : Touch L s (releaseKey i f s) := by
  unfold releaseKey
  split
  · dsimp only
    split
    · exact (touch_openKey s).trans (touch_giveNotice _ _ _ _ _)
    · exact touch_openKey s
  · exact .refl

theorem touch_drainStale (s : State) : Touch L s (drainStale i s) := by
  unfold drainStale
  repeat' split
  · exact .refl
  · exact touch_clearStale s i
  · exact .refl

theorem touch_drainEcho (may : L.send) (s : State) : Touch L s (drainEcho i s) := by
  unfold drainEcho
  split
  case h_2 => exact .refl
  split
  · dsimp only
    split
    · exact touch_setEchoBit _ _ _
    · exact (touch_setEchoBit _ _ _).trans (touch_requestEcho may _ _)
  · exact .refl

theorem touch_drainKey (may : L.send) (s : State) : Touch L s (drainKey i s) :=
  ((touch_releaseKey _ s).trans (touch_drainStale _)).trans (touch_drainEcho may _)

end Keys

/-! ## Encoders -/

theorem stepOf_bounds {b x : BitVec 2} {d : Int} (h : stepOf b x = some d) : -1 ≤ d ∧ d ≤ 1 := by
  unfold stepOf at h
  split at h <;> cases h <;> decide

theorem Resolution.steps_pos (r : Resolution) : 1 ≤ r.steps := by cases r <;> decide

/-- A sample leaves the sub-position below a turn (R82). -/
theorem decodeSample_sub {r : Resolution} {c : EncoderCtx} (lower : -r.steps < c.sub) (upper : c.sub < r.steps)
    (x : BitVec 2) : -r.steps < (decodeSample r c x).1.sub ∧ (decodeSample r c x).1.sub < r.steps := by
  have := r.steps_pos
  unfold decodeSample
  split
  · exact ⟨lower, upper⟩
  · rename_i d hd
    have := stepOf_bounds hd
    split
    · exact ⟨lower, upper⟩
    · simp only [countStep]
      repeat' split
      all_goals (simp only; omega)

/-- A sample makes at most one turn (R82). -/
theorem decodeSample_turn (r : Resolution) (c : EncoderCtx) (x : BitVec 2) :
    -1 ≤ (decodeSample r c x).2 ∧ (decodeSample r c x).2 ≤ 1 := by
  unfold decodeSample countStep
  repeat' split
  all_goals simp

theorem decodeSample_keeps (r : Resolution) (c : EncoderCtx) (x : BitVec 2) :
    (decodeSample r c x).1.phase = x ∧ (decodeSample r c x).1.carry = c.carry ∧
      (decodeSample r c x).1.carryOwed = c.carryOwed ∧
      ((decodeSample r c x).1.skips = c.skips ∨ (decodeSample r c x).1.skips = bump Config.countTop c.skips) := by
  unfold decodeSample
  split
  · exact ⟨rfl, rfl, rfl, .inr rfl⟩
  · split <;> exact ⟨rfl, rfl, rfl, .inl rfl⟩

theorem decodeSamples_sub {r : Resolution} (xs : List (BitVec 2)) {c : EncoderCtx} (lower : -r.steps < c.sub)
    (upper : c.sub < r.steps) : -r.steps < (decodeSamples r xs c).1.sub ∧ (decodeSamples r xs c).1.sub < r.steps := by
  induction xs generalizing c with
  | nil => exact ⟨lower, upper⟩
  | cons x xs ih =>
    obtain ⟨h1, h2⟩ := decodeSample_sub lower upper x
    exact ih h1 h2

theorem decodeSamples_turns (r : Resolution) (xs : List (BitVec 2)) (c : EncoderCtx) :
    -(xs.length : Int) ≤ (decodeSamples r xs c).2 ∧ (decodeSamples r xs c).2 ≤ xs.length := by
  induction xs generalizing c with
  | nil => simp [decodeSamples]
  | cons x xs ih =>
    obtain ⟨h1, h2⟩ := decodeSample_turn r c x
    obtain ⟨h3, h4⟩ := ih (decodeSample r c x).1
    simp only [decodeSamples, List.length_cons]
    push_cast
    omega

theorem decodeSamples_keeps (r : Resolution) (xs : List (BitVec 2)) (c : EncoderCtx) :
    (decodeSamples r xs c).1.carry = c.carry ∧ (decodeSamples r xs c).1.carryOwed = c.carryOwed ∧
      (c.skips ≤ 255 → (decodeSamples r xs c).1.skips ≤ 255) := by
  induction xs generalizing c with
  | nil => exact ⟨rfl, rfl, id⟩
  | cons x xs ih =>
    obtain ⟨-, h1, h2, h3⟩ := decodeSample_keeps r c x
    obtain ⟨h4, h5, h6⟩ := ih (decodeSample r c x).1
    refine ⟨h4.trans h1, h5.trans h2, fun h => h6 ?_⟩
    rcases h3 with h3 | h3 <;> rw [h3]
    exacts [h, bump_le h le_rfl]

/-- Four samples make at most four turns, and acceleration at most eight of each (R45, R83). -/
theorem shapeDelta_bounds {p : EncoderParams} {d : Int} (factor : p.factor ≤ 8) (lower : -4 ≤ d) (upper : d ≤ 4) :
    -32 ≤ shapeDelta p d ∧ shapeDelta p d ≤ 32 := by
  have product : -32 ≤ d * (p.factor : Int) ∧ d * (p.factor : Int) ≤ 32 := by
    have h1 : (0 : Int) ≤ p.factor := by positivity
    have h2 : (p.factor : Int) ≤ 8 := by exact_mod_cast factor
    constructor <;> nlinarith
  unfold shapeDelta
  dsimp only
  repeat' split
  all_goals omega

theorem touch_encoderReport (v : Word) (s : State) : Touch L s (encoderReport i v s) := by
  unfold encoderReport
  split
  case h_2 => exact .refl
  rename_i p c hc
  dsimp only
  have decoded : Touch L s (s.updEncoder i fun _ => (decodeSamples p.resolution (samples v) c).1) :=
    touch_updEncoder fun q e he h => by
      rw [hc] at he; cases he
      obtain ⟨h1, h2, h3, h4, h5, h6, h7, h8, h9, h10⟩ := h
      obtain ⟨lower, upper⟩ := decodeSamples_sub (samples v) h6 h7
      obtain ⟨carry, -, skips⟩ := decodeSamples_keeps p.resolution (samples v) c
      exact ⟨h1, h2, h3, h4, h5, lower, upper, carry ▸ h8, carry ▸ h9, skips h10⟩
  split
  · exact decoded
  · refine decoded.trans (touch_placeTurn fun q e he h => ?_)
    rw [State.updEncoder_of_encoder hc, State.element_setControl] at he
    cases he
    obtain ⟨-, -, -, -, factor, -, -, -, -, -⟩ := h
    obtain ⟨lower, upper⟩ := decodeSamples_turns p.resolution (samples v) c
    exact shapeDelta_bounds factor lower upper

theorem touch_encoderBaseline (v : Word) (s : State) : Touch L s (encoderBaseline i v s) :=
  touch_updEncoder fun p c _ ⟨h1, h2, h3, h4, h5, _, _, h8⟩ => by
    have := p.resolution.steps_pos
    exact ⟨h1, h2, h3, h4, h5, by simp only; omega, by simp only; omega, h8⟩

theorem touch_clearSub (i : Nat) (s : State) : Touch L s (clearSub i s) :=
  touch_updEncoder fun p c _ ⟨h1, h2, h3, h4, h5, _, _, h8⟩ => by
    have := p.resolution.steps_pos
    exact ⟨h1, h2, h3, h4, h5, by simp only; omega, by simp only; omega, h8⟩

/-! ## Levels -/

/-- A level's context changed: with values in range, and a timer that starts only where it may. -/
theorem touch_updLevel_plain {f : LevelCtx → LevelCtx} (raw : ∀ c, (f c).raw = c.raw ∨ (L.sound → (f c).raw ≤ 1023))
    (given : ∀ c v, (f c).lastGiven = some v → c.lastGiven = some v ∨ (L.sound → v ≤ 1023))
    (held : ∀ c v, (f c).held = some v → c.held = some v ∨ (L.sound → v ≤ 1023))
    (rest : ∀ c, c.timer = none → (f c).timer = none ∨ L.wake i) : Touch L s (s.updLevel i f) :=
  touch_updLevel fun _ c _ => .level (fun r h => (raw c).elim (fun e => e ▸ h) fun k => k r)
    (fun r _ h v hv => (given c v hv).elim (h v) fun k => k r)
    (fun r h v hv => (held c v hv).elim (h v) fun k => k r) (rest c)

theorem touch_setZone (z : Zone) (s : State) : Touch L s (s.updLevel i fun c => { c with zone := z }) :=
  touch_updLevel_plain (fun _ => .inl rfl) (fun _ _ => .inl) (fun _ _ => .inl) fun _ => .inl

theorem touch_updateZone (v : Nat) (s : State) : Touch L s (updateZone i v s) := by
  unfold updateZone
  split
  case h_2 => exact .refl
  dsimp only
  split
  · exact (touch_setZone _ s).trans (touch_giveNotice _ _ _ _ _)
  · exact touch_setZone _ s

theorem touch_replaceLevel {v : Nat} (hv : L.sound → v ≤ 1023) (z : Zone) (s : State) :
    Touch L s (replaceLevel i v z s) := by
  have amended : Touch L s (amend (s.isFor i .level) (fun n => { n with value := v, zone := some z }) s) :=
    touch_amend (fun _ => ⟨rfl, rfl⟩) fun _ _ _ => .inl ⟨rfl, rfl⟩
  exact amended.trans
    (touch_updLevel_plain (fun _ => .inl rfl) (fun _ _ h => .inr (Option.some.inj h ▸ hv)) nofun fun _ => .inl)

theorem touch_giveLevel (w : L.wake i) {v : Nat} (hv : L.sound → v ≤ 1023) {z : Zone} {f : Flags} {a b : Timer}
    (waits : s.hasUntaken (s.isFor i .level) = false) : Touch L s (giveLevel i v z f a b s) := by
  unfold giveLevel
  split
  case h_2 => exact .refl
  rename_i n hn
  have noticed : Touch L s (notify n s) := touch_notify (.inr (State.fresh_of_hasUntaken waits hn))
  split
  · exact noticed.trans (touch_updLevel_plain (fun _ => .inl rfl) (fun _ _ h => .inr (Option.some.inj h ▸ hv)) (fun _ _ => .inl)
      fun _ _ => .inr w)
  · exact noticed.trans (touch_updLevel_plain (fun _ => .inl rfl) (fun _ _ => .inl) (fun _ _ => .inl) fun _ _ => .inr w)

theorem touch_dropHeld (s : State) : Touch L s (s.updLevel i fun c => { c with held := none }) :=
  touch_updLevel_plain (fun _ => .inl rfl) (fun _ _ => .inl) nofun fun _ => .inl

theorem touch_judgeLevel (w : L.wake i) {v : Nat} (hv : L.sound → v ≤ 1023) (waits : s.hasUntaken (s.isFor i .level) = false) :
    Touch L s (judgeLevel i v s) := by
  unfold judgeLevel
  split
  case h_2 => exact .refl
  split
  · exact touch_dropHeld s
  split
  · exact touch_giveLevel w hv waits
  · exact touch_updLevel_plain (fun _ => .inl rfl) (fun _ _ => .inl) (fun _ _ h => .inr (Option.some.inj h ▸ hv)) fun _ => .inl

theorem touch_levelReport (w : L.wake i) {v : Nat} (hv : L.sound → v ≤ 1023) (s : State) : Touch L s (levelReport i v s) := by
  unfold levelReport
  split
  case h_2 => exact .refl
  split
  · exact .refl
  dsimp only
  have zoned : Touch L s (updateZone i v (s.updLevel i fun c => { c with raw := v })) :=
    Touch.trans (t := s.updLevel i fun c => { c with raw := v })
      (touch_updLevel_plain (fun _ => .inr hv) (fun _ _ => .inl) (fun _ _ => .inl) fun _ => .inl) (touch_updateZone v _)
  split
  · exact zoned.trans (touch_replaceLevel hv _ _)
  · exact zoned.trans (touch_judgeLevel w hv (Bool.eq_false_iff.mpr ‹_›))

/-- What a change of an element's context leaves: the lanes and the modules. -/
theorem State.updLevel_lanes (s : State) (i : Nat) (f : LevelCtx → LevelCtx) :
    (s.updLevel i f).lanes = s.lanes ∧ (s.updLevel i f).modules = s.modules := by
  unfold State.updLevel
  split <;> exact ⟨rfl, rfl⟩

theorem State.bound_congr {s t : State} (h : t.modules = s.modules) (i : Nat) : t.bound i = s.bound i := by
  simp only [State.bound, State.module_congr h]

theorem State.isFor_congr {s t : State} (h : t.modules = s.modules) (i : Nat) (k : NoticeKind) :
    t.isFor i k = s.isFor i k := by
  funext n
  simp only [State.isFor, State.bound_congr h, State.numberIn, State.module_congr h]

theorem State.hasUntaken_congr {s t : State} (h : t.lanes = s.lanes) (y : Notice → Bool) :
    t.hasUntaken y = s.hasUntaken y := by
  simp only [State.hasUntaken, State.laneWith, State.lane_congr h]

theorem State.hasUntaken_updLevel (s : State) (i : Nat) (f : LevelCtx → LevelCtx) (j : Nat) (k : NoticeKind) :
    (s.updLevel i f).hasUntaken ((s.updLevel i f).isFor j k) = s.hasUntaken (s.isFor j k) := by
  obtain ⟨lanes, modules⟩ := s.updLevel_lanes i f
  rw [State.isFor_congr modules, State.hasUntaken_congr lanes]

/-- The value held is in range where the level is (R50). -/
theorem touch_paceExpiry (w : L.wake i) (s : State) (range : L.sound → (s.element i).control.inRange) : Touch L s (paceExpiry i s) := by
  unfold paceExpiry
  split
  case h_2 => exact .refl
  rename_i p c hc
  split
  · exact touch_updLevel_plain (fun _ => .inl rfl) (fun _ _ => .inl) (fun _ _ => .inl) fun _ _ => .inl rfl
  rename_i h hh
  have hv : L.sound → h ≤ 1023 := fun sound => by
    have := range sound
    rw [hc] at this
    obtain ⟨-, -, -, -, -, -, held⟩ := this
    exact held h hh
  dsimp only
  split
  · exact ((touch_dropHeld s).trans (touch_replaceLevel hv _ _)).trans
      (touch_updLevel_plain (fun _ => .inl rfl) (fun _ _ => .inl) (fun _ _ => .inl) fun _ _ => .inr w)
  · refine (touch_dropHeld s).trans (touch_giveLevel w hv ?_)
    rw [State.hasUntaken_updLevel]
    exact Bool.eq_false_iff.mpr ‹_›

/-- A notice of an element of which none of its kind waits under any binding. -/
theorem touch_notifyElement {k : NoticeKind} {v : Int} {z : Option Zone} {f : Flags}
    (waits : ∀ l, ∀ x ∈ (s.lane l).fifo, x.index = some i → x.kind = k → False) :
    Touch L s (giveNotice i k v z f s) := by
  unfold giveNotice
  cases hb : s.bound i with
  | none => simp only [State.elementNotice, hb]; exact .refl
  | some m =>
    rw [State.elementNotice_of_bound hb]
    exact touch_notify (.inr fun l x hx ⟨h1, h2, _, _⟩ => waits l x hx h2 h1)

/-- The baseline of a level under its present binding: the notice it amends names that binding afterwards, and names it
before or finds none that does (R95). -/
theorem touch_levelBaseline {v : Nat} (hv : L.sound → v ≤ 1023) (s : State) : Touch L s (levelBaseline i v s) := by
  unfold levelBaseline
  split
  case h_2 => exact .refl
  rename_i p c m hc hb
  dsimp only
  have based : Touch L s (s.updLevel i fun c =>
      { c with raw := v, zone := zoneFresh p v, lastGiven := some v, held := none }) :=
    touch_updLevel_plain (fun _ => .inr hv) (fun _ _ h => .inr (Option.some.inj h ▸ hv)) nofun fun _ => .inl
  refine based.trans ?_
  obtain ⟨lanes, modules⟩ := s.updLevel_lanes i fun c =>
    { c with raw := v, zone := zoneFresh p v, lastGiven := some v, held := none }
  generalize (s.updLevel i fun c => { c with raw := v, zone := zoneFresh p v, lastGiven := some v, held := none }) = s1
    at lanes modules
  have bound : s1.bound i = some m := by rw [State.bound_congr modules, hb]
  split
  · have isLevel : ∀ n, s1.baselineLevel i n = true → n.index = some i ∧ n.kind = .level := by
      intro n hn
      unfold State.baselineLevel at hn
      split at hn
      · obtain ⟨h1, h2, -⟩ := (s1.isFor_iff _ _ _).mp hn
        exact ⟨h1, h2⟩
      · simpa [isLevelOf] using hn
    refine touch_amend (fun _ => ⟨rfl, rfl⟩) fun n hn _ => ?_
    obtain ⟨index, kind⟩ := isLevel n hn
    unfold State.baselineLevel at hn
    by_cases waits : s1.hasUntaken (s1.isFor i .level) = true
    · rw [if_pos waits] at hn
      obtain ⟨-, -, k, hk, module, element⟩ := (s1.isFor_iff _ _ _).mp hn
      rw [bound] at hk
      cases hk
      exact .inl ⟨module.symm, by rw [element, State.numberIn, State.module_congr modules]⟩
    · refine .inr fun l x hx ⟨h1, h2, h3, h4⟩ => waits ((s1.hasUntaken_iff _).mpr ⟨l, x, hx, ?_⟩)
      refine (s1.isFor_iff _ _ _).mpr ⟨h2.trans index, h1.trans kind, m, bound, h3, ?_⟩
      rw [h4, State.numberIn, State.module_congr modules]
  · rename_i none_waits
    refine touch_notifyElement fun l x hx h1 h2 => none_waits ((s1.hasUntaken_iff _).mpr ⟨l, x, hx, ?_⟩)
    simp [isLevelOf, h1, h2]

theorem touch_loseLevel (s : State) : Touch L s (loseLevel i s) :=
  touch_updLevel_plain (fun _ => .inl rfl) (fun _ _ => .inl) nofun fun _ _ => .inl rfl

/-! ## By class -/

theorem touch_giveRaw (h : ∃ w, (s.element i).control = .raw w) (v : Word) (f : Flags) : Touch L s (giveRaw i v f s) := by
  obtain ⟨w, hw⟩ := h
  exact (touch_setControl (by rw [hw]; exact .raw)).trans (touch_giveNotice _ _ _ _ _)

theorem touch_reportValue (w : L.wake i) (v : Word) (s : State) : Touch L s (reportValue i v s) := by
  unfold reportValue
  split
  · split
    exacts [touch_keyReport w _ s, touch_countRangeError s]
  · split
    exacts [touch_encoderReport v s, touch_countRangeError s]
  · split
    exacts [touch_levelReport w (fun _ => ‹_›) s, touch_countRangeError s]
  · split
    exacts [.refl, touch_giveRaw ⟨_, ‹_›⟩ v _]
  · exact .refl

theorem touch_baseline (w : L.wake i) (may : L.send) (v : Word) (s : State) : Touch L s (baseline i v s) := by
  unfold baseline
  split
  · split
    exacts [touch_keyBaseline w may _ s, (touch_keyNoBaseline s).trans (touch_countRangeError _)]
  · split
    exacts [touch_encoderBaseline v s, (touch_clearSub i s).trans (touch_countRangeError _)]
  · split
    exacts [touch_levelBaseline (fun _ => ‹_›) s, touch_countRangeError s]
  · exact touch_giveRaw ⟨_, ‹_›⟩ v _
  · exact .refl

theorem touch_loseElement (s : State) : Touch L s (loseElement i s) := by
  unfold loseElement
  split
  · exact touch_releaseKey _ s
  · exact touch_clearSub i s
  · exact touch_loseLevel s
  · exact .refl
  · exact .refl

theorem touch_drainElement (may : L.send) (s : State) : Touch L s (drainElement i s) := by
  unfold drainElement
  split
  · exact touch_drainKey may s
  · refine touch_updEncoder fun p c _ ⟨h1, h2, h3, h4, h5, _, _, _, _, h8⟩ => ?_
    have := p.resolution.steps_pos
    exact ⟨h1, h2, h3, h4, h5, by simp only; omega, by simp only; omega, by simp, by simp, h8⟩
  · exact touch_updLevel_plain (fun _ => .inl rfl) (fun _ _ => .inl) nofun fun _ _ => .inl rfl
  · exact .refl
  · exact .refl

/-! ## The capture ring -/

theorem touch_setMark (k : Mark) (s : State) (m : ModuleIx) : Touch L s (s.setMark m k) :=
  touch_setModule (.plain rfl rfl .inl id rfl) (.inl le_rfl)

/-- Every module's capture mark set, and nothing else of it. -/
theorem touch_marks {v : Vector Module 62} (h : ∀ m : ModuleIx, ∃ k, v[m] = { s.module m with mark := k }) :
    Touch L s { s with modules := v } := by
  refine touch_modules (fun m => ?_) fun m => ?_ <;> obtain ⟨k, hk⟩ := h m <;> rw [hk]
  exact .plain rfl rfl .inl id rfl

theorem bumpBy_le (top n k : Nat) : bumpBy top n k ≤ top := by unfold bumpBy; split <;> omega

theorem touch_captureOverflow (m : ModuleIx) (own : Mark) (s : State) : Touch L s (captureOverflow m own s) := by
  have emptied : Touch L s { s with capture := { s.capture with
      uncommitted := []
      dropped := bumpBy Config.counterTop s.capture.dropped (allModules.filter (s.dropsSweep m)).length } } :=
    .of (.capture _ (fun h => by simp only [CaptureRing.heldCount, List.length_nil] at h ⊢; omega)
      fun _ => bumpBy_le _ _ _)
  exact emptied.trans (touch_marks fun k => ⟨_, by simp only [Fin.getElem_fin, Vector.getElem_ofFn, Fin.eta]; rfl⟩)

theorem touch_captureReport (m : ModuleIx) (e : Byte) (v : Word) (s : State) : Touch L s (captureReport m e v s) := by
  unfold captureReport
  split
  · split
    · rename_i room
      refine .of (.capture _ (fun _ => ?_) id)
      simp only [CaptureRing.heldCount, List.length_append, List.length_cons, List.length_nil, Config.captureEntries]
        at room ⊢
      omega
    · exact touch_captureOverflow _ _ s
  · exact .refl

theorem touch_captureSweep (m : ModuleIx) (n : Byte) (o : SweepOutcome) (s : State) : Touch L s (captureSweep m n o s) := by
  unfold captureSweep
  split
  · exact touch_setMark _ s m
  · split
    · split
      · rename_i room
        refine .of (.capture _ (fun _ => ?_) id)
        simp only [CaptureRing.heldCount, List.length_append, List.length_cons, List.length_nil, Config.captureEntries]
          at room ⊢
        omega
      · exact touch_captureOverflow _ _ s
    · exact .refl

theorem touch_captureControl (e : Bool) (f : Option ModuleIx) (c : Bool) (s : State) :
    Touch L s (captureControl e f c s) := by
  have restarted : ∀ t : State, Touch L t (captureRestart t) := fun t => by
    have emptied : Touch L t { t with capture := { t.capture with uncommitted := [] } } :=
      .of (.capture _ (fun h => by simp only [CaptureRing.heldCount, List.length_nil] at h ⊢; omega) id)
    exact emptied.trans (touch_marks fun m => ⟨_, by simp only [Fin.getElem_fin, mapAll_get]; rfl⟩)
  have cleared : Touch L s (if c = true then { s with capture := { s.capture with readable := [], uncommitted := [] } }
      else s) := by
    split
    · exact .of (.capture _ (fun _ => Nat.zero_le _) id)
    · exact .refl
  unfold captureControl
  dsimp only
  refine Touch.trans ?_ (.of (.capture _ id id))
  split
  · exact cleared.trans (restarted _)
  · exact cleared

/-! ## The sweep assembler -/

theorem touch_updModule_plain {f : Module → Module} (entry : ∀ x, (f x).entry = x.entry) (state : ∀ x, (f x).state = x.state)
    (owed : ∀ x, (f x).resyncOwed = true → x.resyncOwed = true) (range : ∀ x, x.inRange → (f x).inRange)
    (slots : ∀ x, (f x).sweep.slots = x.sweep.slots) (s : State) (m : ModuleIx) : Touch L s (s.updModule m f) :=
  touch_updModule (fun x _ => .plain (entry x) (state x) (fun h => .inl (owed x h)) (range x) (slots x)) fun x => by
    rw [slots x]

theorem touch_startWatchdog (m : ModuleIx) (s : State) : Touch L s (startWatchdog m s) := by
  refine touch_updModule_plain ?_ ?_ ?_ ?_ ?_ s m
  exacts [fun _ => rfl, fun _ => rfl, fun _ => id, fun _ => id, fun _ => rfl]

/-- A module whose open sweep becomes one without slots. -/
theorem Module.Moves.emptied {f : Prop} {x y : Module} (entry : y.entry = x.entry) (state : y.state = x.state)
    (owed : y.resyncOwed = x.resyncOwed) (range : x.inRange → y.inRange) (slots : y.sweep.slots = []) : x.Moves f y where
  entry := entry
  state := state
  range := range
  owed := fun h => .inl (owed ▸ h)
  numbers := fun _ z hz => by rw [slots] at hz; cases hz
  slots := fun _ => .inl slots

theorem touch_discardSweep (m : ModuleIx) (s : State) : Touch L s (discardSweep m s) :=
  touch_setModule (.emptied rfl rfl rfl (fun ⟨h1, h2, h3, h4, _⟩ => ⟨h1, h2, h3, h4, Nat.zero_le _⟩) rfl)
    (.inl (Nat.zero_le _))

theorem touch_countRejected (m : ModuleIx) (s : State) : Touch L s (countRejected m s) := by
  refine touch_updModule_plain ?_ ?_ ?_ ?_ ?_ s m
  exacts [fun _ => rfl, fun _ => rfl, fun _ => id, fun _ ⟨h1, h⟩ => ⟨bump_le h1 le_rfl, h⟩, fun _ => rfl]

theorem touch_countDuplicate (m : ModuleIx) (s : State) : Touch L s (countDuplicate m s) := by
  refine touch_updModule_plain ?_ ?_ ?_ ?_ ?_ s m
  exacts [fun _ => rfl, fun _ => rfl, fun _ => id, fun _ ⟨h1, h2, h3, h⟩ => ⟨h1, h2, bump_le h3 le_rfl, h⟩, fun _ => rfl]

theorem touch_countGap (m : ModuleIx) (s : State) : Touch L s (countGap m s) := by
  refine touch_updModule_plain ?_ ?_ ?_ ?_ ?_ s m
  exacts [fun _ => rfl, fun _ => rfl, fun _ => id, fun _ ⟨h1, h2, h⟩ => ⟨h1, bump_le h2 le_rfl, h⟩, fun _ => rfl]

theorem touch_updateView (m : ModuleIx) (s : State) : Touch L s (updateView m s) := by
  unfold updateView
  split
  · refine touch_updModule_plain ?_ ?_ ?_ ?_ ?_ s m
    exacts [fun _ => rfl, fun _ => rfl, fun _ => id, fun _ => id, fun _ => rfl]
  · exact .refl

theorem touch_dropSweep (m : ModuleIx) (s : State) : Touch L s (dropSweep m s) :=
  (touch_discardSweep m s).trans (touch_setMark _ _ m)

end Sys2Proof.Machine

/-! # What a run of strokes keeps -/

namespace Sys2Proof.Machine

variable {L : License} {s t u : State} {i : Nat} {m : ModuleIx}

/-- What every stroke keeps, a run of strokes keeps. -/
theorem Touch.keeps {P : State → Prop} (h : ∀ {s t}, Stroke L s t → P s → P t) (run : Touch L s t) (hs : P s) : P t := by
  induction run with
  | refl => exact hs
  | tail _ stroke ih => exact h stroke ih

/-! ## The desk, the module map, and the module states -/

theorem Stroke.desk (h : Stroke L s t) : t.desk = s.desk := by
  cases h with
  | elements _ _ _ => rfl
  | push _ _ _ => exact pushNotice_desk _ _
  | overflow _ => exact countOverflow_desk _ _
  | amend _ _ _ _ _ _ _ _ => exact setLane_desk _ _ _ rfl rfl rfl
  | modules _ _ _ => rfl
  | send _ _ _ _ _ => rfl
  | counts _ _ _ _ => rfl
  | capture _ _ _ => rfl
  | pace _ _ _ => rfl

theorem Touch.desk (h : Touch L s t) : t.desk = s.desk :=
  h.keeps (P := fun t => t.desk = s.desk) (fun stroke hs => stroke.desk.trans hs) rfl

theorem Stroke.modules_eq_or (h : Stroke L s t) : t.modules = s.modules ∨
    ∀ m, (s.module m).Moves s.full (t.module m) := by
  cases h with
  | modules _ moves _ => exact .inr moves
  | _ => exact .inl rfl

theorem Stroke.module (h : Stroke L s t) (m : ModuleIx) : (s.module m).Moves s.full (t.module m) := by
  rcases h.modules_eq_or with h | h
  · rw [State.module_congr h]; exact .refl _ _
  · exact h m

theorem Touch.entry (h : Touch L s t) (m : ModuleIx) : (t.module m).entry = (s.module m).entry :=
  h.keeps (P := fun t => (t.module m).entry = (s.module m).entry) (fun stroke hs => (stroke.module m).entry.trans hs) rfl

theorem Touch.state (h : Touch L s t) (m : ModuleIx) : (t.module m).state = (s.module m).state :=
  h.keeps (P := fun t => (t.module m).state = (s.module m).state) (fun stroke hs => (stroke.module m).state.trans hs) rfl

theorem Touch.bound (h : Touch L s t) (i : Nat) : t.bound i = s.bound i := by simp only [State.bound, h.entry]

theorem Touch.boundTo (h : Touch L s t) (m : ModuleIx) : t.boundTo m = s.boundTo m := by
  simp only [State.boundTo, h.entry]

theorem Touch.moduleRange (h : Touch L s t) (m : ModuleIx) (range : (s.module m).inRange) : (t.module m).inRange :=
  h.keeps (P := fun t => (t.module m).inRange) (fun stroke => (stroke.module m).range) range

theorem Touch.numbered (h : Touch L s t) (m : ModuleIx) (numbered : (s.module m).numbered) : (t.module m).numbered :=
  h.keeps (P := fun t => (t.module m).numbered) (fun stroke => (stroke.module m).numbers) numbered

/-- A module that takes no report keeps an empty open sweep. -/
theorem Touch.slots (h : Touch L s t) (m : ModuleIx) (away : (s.module m).state ≠ .waiting ∧ (s.module m).state ≠ .active)
    (empty : (s.module m).sweep.slots = []) : (t.module m).sweep.slots = [] := by
  refine (h.keeps (P := fun t => (t.module m).state = (s.module m).state ∧ (t.module m).sweep.slots = [])
    (fun {a b} stroke ⟨state, slots⟩ => ⟨(stroke.module m).state.trans state, ?_⟩) ⟨rfl, empty⟩).2
  rcases (stroke.module m).slots slots with e | e | e
  · exact e
  · exact absurd (state ▸ e) away.1
  · exact absurd (state ▸ e) away.2

/-! ## The outbound queue -/

theorem Stroke.outbound_or (h : Stroke L s t) : t.outbound = s.outbound ∨
    ∃ f, t.outbound = s.outbound ++ [f] ∧ L.send ∧ s.outbound.length < 32 ∧ (f.forwarded = true → s.forwardedCount < 28) := by
  cases h with
  | send f b may free limit => exact .inr ⟨⟨f, b⟩, rfl, may, free, limit⟩
  | _ => exact .inl rfl

theorem Stroke.length_le (h : Stroke L s t) : s.outbound.length ≤ t.outbound.length := by
  rcases h.outbound_or with h | ⟨f, h, -⟩ <;> rw [h]
  simp

theorem Touch.length_le (h : Touch L s t) : s.outbound.length ≤ t.outbound.length :=
  h.keeps (P := fun t => s.outbound.length ≤ t.outbound.length) (fun stroke hs => hs.trans stroke.length_le) le_rfl

theorem Stroke.full (h : Stroke L s t) (hs : s.full) : t.full := hs.trans h.length_le

theorem Touch.full (h : Touch L s t) (hs : s.full) : t.full := hs.trans h.length_le

theorem Touch.length_le_limit (h : Touch L s t) (hs : s.outbound.length ≤ 32) : t.outbound.length ≤ 32 := by
  refine h.keeps (P := fun t => t.outbound.length ≤ 32) (fun {a b} stroke ha => ?_) hs
  rcases stroke.outbound_or with h | ⟨f, h, -, free, -⟩ <;> rw [h]
  · exact ha
  · simpa using free

theorem Touch.forwardedCount_le (h : Touch L s t) (hs : s.forwardedCount ≤ 28) : t.forwardedCount ≤ 28 := by
  refine h.keeps (P := fun t => t.forwardedCount ≤ 28) (fun {a b} stroke ha => ?_) hs
  unfold State.forwardedCount at *
  rcases stroke.outbound_or with h | ⟨f, h, -, -, limit⟩ <;> rw [h]
  · exact ha
  · rw [List.filter_append, List.length_append]
    cases hf : f.forwarded with
    | false => simpa [hf] using ha
    | true => have := limit hf; unfold State.forwardedCount at this; simpa [hf] using this

/-- Nothing is queued to the chain by an event that may not. -/
theorem Touch.outbound_of_not_send (h : Touch L s t) (quiet : ¬ L.send) : t.outbound = s.outbound := by
  refine h.keeps (P := fun t => t.outbound = s.outbound) (fun {a b} stroke ha => ?_) rfl
  rcases stroke.outbound_or with h | ⟨f, h, may, -⟩
  · exact h.trans ha
  · exact absurd may quiet

/-! ## What is owed to the chain (R136) -/

theorem Touch.resyncOwed (h : Touch L s t) (m : ModuleIx) (owed : (t.module m).resyncOwed = true) :
    (s.module m).resyncOwed = true ∨ t.full := by
  refine h.keeps (P := fun t => (t.module m).resyncOwed = true → (s.module m).resyncOwed = true ∨ t.full)
    (fun {a b} stroke ha hb => ?_) .inl owed
  exact ((stroke.module m).owed hb).elim (fun e => (ha e).imp id stroke.full) (fun f => .inr (stroke.full f))

theorem Stroke.paceOwed (h : Stroke L s t) (owed : t.paceOwed = true) : s.paceOwed = true ∨ s.full := by
  cases h with
  | pace _ _ only => exact only owed
  | _ => exact .inl owed

theorem Touch.paceOwed (h : Touch L s t) (owed : t.paceOwed = true) : s.paceOwed = true ∨ t.full := by
  refine h.keeps (P := fun t => t.paceOwed = true → s.paceOwed = true ∨ t.full) (fun {a b} stroke ha hb => ?_) .inl owed
  exact (stroke.paceOwed hb).elim (fun e => (ha e).imp id stroke.full) (fun f => .inr (stroke.full f))

/-! ## The elements -/

theorem Stroke.control (h : Stroke L s t) (i : Nat) :
    (s.element i).control.Moves L.sound (L.wake i) s.full (t.element i).control := by
  cases h with
  | elements _ _ moves => exact moves i
  | _ => exact .refl _ _ _ _

theorem Touch.tableOk (h : Touch L s t) (hs : s.tableOk) : t.tableOk := by
  refine h.keeps (P := State.tableOk) (fun {a b} stroke ha => ?_) hs
  cases stroke with
  | elements _ table _ => exact table ha
  | _ => exact ha

theorem Touch.controlRange (h : Touch L s t) (sound : L.sound) (i : Nat) (hs : (s.element i).control.inRange) :
    (t.element i).control.inRange :=
  h.keeps (P := fun t => (t.element i).control.inRange) (fun stroke => (stroke.control i).range sound) hs

theorem Touch.rested (h : Touch L s t) (i : Nat) (hs : (s.element i).control.rested) :
    (t.element i).control.rested ∨ L.wake i := by
  refine h.keeps (P := fun t => (t.element i).control.rested ∨ L.wake i) (fun {a b} stroke ha => ?_) (.inl hs)
  exact ha.elim (stroke.control i).rest .inr

theorem Touch.owesEcho (h : Touch L s t) (i : Nat) (owes : (t.element i).control.owesEcho) :
    (s.element i).control.owesEcho ∨ t.full := by
  refine h.keeps (P := fun t => (t.element i).control.owesEcho → (s.element i).control.owesEcho ∨ t.full)
    (fun {a b} stroke ha hb => ?_) .inl owes
  exact ((stroke.control i).echo hb).elim (fun e => (ha e).imp id stroke.full) (fun f => .inr (stroke.full f))

/-! ## Counts -/

theorem Touch.counters (h : Touch L s t) (hs : s.counters.inRange) : t.counters.inRange := by
  refine h.keeps (P := fun t => t.counters.inRange) (fun {a b} stroke ha => ?_) hs
  cases stroke with
  | counts _ _ counters _ => exact counters ha
  | _ => exact ha

theorem Touch.systemLost (h : Touch L s t) (hs : s.systemLost ≤ 255) : t.systemLost ≤ 255 := by
  refine h.keeps (P := fun t => t.systemLost ≤ 255) (fun {a b} stroke ha => ?_) hs
  cases stroke with
  | counts _ _ _ lost => exact lost ha
  | _ => exact ha

theorem Touch.dropped (h : Touch L s t) (hs : s.capture.dropped ≤ 65535) : t.capture.dropped ≤ 65535 := by
  refine h.keeps (P := fun t => t.capture.dropped ≤ 65535) (fun {a b} stroke ha => ?_) hs
  cases stroke with
  | capture _ _ dropped => exact dropped ha
  | _ => exact ha

theorem Touch.heldCount (h : Touch L s t) (hs : s.capture.heldCount ≤ 256) : t.capture.heldCount ≤ 256 := by
  refine h.keeps (P := fun t => t.capture.heldCount ≤ 256) (fun {a b} stroke ha => ?_) hs
  cases stroke with
  | capture _ held _ => exact held ha
  | _ => exact ha

theorem Touch.slotsUsed (h : Touch L s t) (hs : s.slotsUsed ≤ 256) : t.slotsUsed ≤ 256 := by
  refine h.keeps (P := fun t => t.slotsUsed ≤ 256) (fun {a b} stroke ha => ?_) hs
  cases stroke with
  | modules _ _ slots => exact slots.elim (fun h => h.trans ha) id
  | _ => exact ha

/-! ## The lanes -/

theorem State.lane_setLane_cases (s : State) (k l : Fin 8) (x : Lane) :
    k = l ∧ (s.setLane l x).lane k = x ∨ k ≠ l ∧ (s.setLane l x).lane k = s.lane k := by
  by_cases h : k = l
  · subst h; exact .inl ⟨rfl, State.lane_setLane s k x⟩
  · exact .inr ⟨h, State.lane_setLane_of_ne s h x⟩

/-- What a stroke does to the lanes: nothing, or one lane's notices or overflow counter change. -/
theorem Stroke.lanes_or (h : Stroke L s t) : t.lanes = s.lanes ∨ ∃ l x, t = s.setLane l x ∧
    x.entry = (s.lane l).entry ∧ (x.overflow = (s.lane l).overflow ∨ x.overflow ≤ 65535) := by
  cases h with
  | push n _ _ => exact .inr ⟨_, _, rfl, rfl, .inl rfl⟩
  | overflow l =>
    refine .inr ⟨_, _, rfl, rfl, ?_⟩
    simp only [bump, Config.counterTop]
    split <;> omega
  | amend l a b n x _ _ _ => exact .inr ⟨_, _, rfl, rfl, .inl rfl⟩
  | _ => exact .inl rfl

theorem Touch.overflow (h : Touch L s t) (l : Fin 8) (hs : (s.lane l).overflow ≤ 65535) : (t.lane l).overflow ≤ 65535 := by
  refine h.keeps (P := fun t => (t.lane l).overflow ≤ 65535) (fun {a b} stroke ha => ?_) hs
  rcases stroke.lanes_or with h | ⟨k, x, rfl, -, hx⟩
  · rwa [State.lane_congr h]
  · rcases a.lane_setLane_cases l k x with ⟨rfl, e⟩ | ⟨-, e⟩ <;> rw [e]
    · omega
    · exact ha

theorem Touch.laneEntry (h : Touch L s t) (l : Fin 8) : (t.lane l).entry = (s.lane l).entry := by
  refine h.keeps (P := fun t => (t.lane l).entry = (s.lane l).entry) (fun {a b} stroke ha => ?_) rfl
  rcases stroke.lanes_or with h | ⟨k, x, rfl, hx, -⟩
  · rwa [State.lane_congr h]
  · rcases a.lane_setLane_cases l k x with ⟨rfl, e⟩ | ⟨-, e⟩ <;> rw [e]
    · exact hx.trans ha
    · exact ha

theorem State.queued_setLane (s : State) (l : Fin 8) (x : Lane) :
    (s.setLane l x).queued + (s.lane l).fifo.length = s.queued + x.fifo.length := by
  have := sum_finRange_of_eq_beside (f := fun k => (s.lane k).fifo.length)
    (g := fun k => ((s.setLane l x).lane k).fifo.length) l fun k hk => by rw [State.lane_setLane_of_ne _ hk]
  rwa [State.lane_setLane] at this

theorem State.queued_congr {s t : State} (h : t.lanes = s.lanes) : t.queued = s.queued := by
  simp only [State.queued, State.lane_congr h]

theorem State.queued_pushNotice (n : Notice) (s : State) : (s.pushNotice n).queued = s.queued + 1 := by
  have h := s.queued_setLane n.lane { s.lane n.lane with fifo := (s.lane n.lane).fifo ++ [n] }
  rw [List.length_append, List.length_singleton] at h
  unfold State.pushNotice
  omega

theorem State.queued_countOverflow (l : Fin 8) (s : State) : (s.countOverflow l).queued = s.queued :=
  Nat.add_right_cancel (s.queued_setLane l { s.lane l with overflow := bump Config.counterTop (s.lane l).overflow })

theorem State.queued_amended {l : Fin 8} {p q : List Notice} {n : Notice} (fifo : (s.lane l).fifo = p ++ n :: q) (x : Notice) :
    (s.setLane l { s.lane l with fifo := p ++ x :: q }).queued = s.queued := by
  have h := s.queued_setLane l { s.lane l with fifo := p ++ x :: q }
  rw [fifo, List.length_append, List.length_append] at h
  exact Nat.add_right_cancel h

theorem Stroke.queued_or (h : Stroke L s t) : t.queued = s.queued ∨
    t.queued = s.queued + 1 ∧ s.queued + s.noticeInFlight < 128 := by
  cases h with
  | push n pool _ => exact .inr ⟨State.queued_pushNotice n s, pool⟩
  | overflow l => exact .inl (State.queued_countOverflow l s)
  | amend l p q n x fifo _ _ => exact .inl (State.queued_amended fifo x)
  | _ => exact .inl rfl

theorem Touch.pool (h : Touch L s t) (hs : s.queued + s.noticeInFlight ≤ 128) : t.queued + t.noticeInFlight ≤ 128 := by
  refine h.keeps (P := fun t => t.queued + t.noticeInFlight ≤ 128) (fun {a b} stroke ha => ?_) hs
  have inFlight : b.noticeInFlight = a.noticeInFlight := by
    simp only [State.noticeInFlight, State.consoleTx_of_desk stroke.desk]
  rcases stroke.queued_or with h | ⟨h, pool⟩ <;> omega

/-! ## One untaken Turn and one untaken Level (R106) -/

/-- The notice is one that `State.waitingFor` counts. -/
def Notice.isOf (k : NoticeKind) (i a n : Nat) (x : Notice) : Bool :=
  x.kind = k ∧ x.index = some i ∧ x.module = a ∧ x.element = n

theorem State.waitingFor_eq (s : State) (k : NoticeKind) (i a n : Nat) :
    s.waitingFor k i a n = ((List.finRange 8).map fun l => (s.lane l).fifo.countP (Notice.isOf k i a n)).sum := by
  simp only [State.waitingFor, List.countP_eq_length_filter]
  rfl

theorem State.waitingFor_setLane (s : State) (l : Fin 8) (x : Lane) (k : NoticeKind) (i a n : Nat) :
    (s.setLane l x).waitingFor k i a n + (s.lane l).fifo.countP (Notice.isOf k i a n) =
      s.waitingFor k i a n + x.fifo.countP (Notice.isOf k i a n) := by
  have := sum_finRange_of_eq_beside (f := fun j => (s.lane j).fifo.countP (Notice.isOf k i a n))
    (g := fun j => ((s.setLane l x).lane j).fifo.countP (Notice.isOf k i a n)) l
    fun j hj => by rw [State.lane_setLane_of_ne _ hj]
  rwa [State.lane_setLane, ← State.waitingFor_eq, ← State.waitingFor_eq] at this

theorem State.waitingFor_congr {s t : State} (h : t.lanes = s.lanes) (k : NoticeKind) (i a n : Nat) :
    t.waitingFor k i a n = s.waitingFor k i a n := by simp only [State.waitingFor, State.lane_congr h]

/-- A fresh notice is the first of its kind, element and binding. -/
theorem State.waitingFor_of_fresh {k : NoticeKind} {i a n : Nat} {x : Notice} (fresh : s.fresh x)
    (hx : Notice.isOf k i a n x = true) : s.waitingFor k i a n = 0 := by
  rw [State.waitingFor_eq, List.sum_eq_zero_iff]
  simp only [List.mem_map, forall_exists_index, and_imp]
  rintro _ l - rfl
  rw [List.countP_eq_zero]
  intro y hy same
  simp only [Notice.isOf, decide_eq_true_eq] at hx same
  obtain ⟨h1, h2, h3, h4⟩ := hx
  obtain ⟨g1, g2, g3, g4⟩ := same
  exact fresh l y hy ⟨g1.trans h1.symm, g2.trans h2.symm, g3.trans h3.symm, g4.trans h4.symm⟩

theorem Stroke.waitingFor_le (h : Stroke L s t) {k : NoticeKind} (hk : k = .turn ∨ k = .level) (i a n : Nat)
    (hs : s.waitingFor k i a n ≤ 1) : t.waitingFor k i a n ≤ 1 := by
  cases h with
  | push x _ fresh =>
    have := s.waitingFor_setLane x.lane { s.lane x.lane with fifo := (s.lane x.lane).fifo ++ [x] } k i a n
    rw [List.countP_append, List.countP_singleton] at this
    unfold State.pushNotice
    split at this
    · rename_i hx
      have kind : x.kind = k := by simp only [Notice.isOf, decide_eq_true_eq] at hx; exact hx.1
      have := State.waitingFor_of_fresh (fresh (by rwa [kind])) hx
      omega
    · omega
  | overflow l =>
    have same : (s.countOverflow l).waitingFor k i a n = s.waitingFor k i a n := Nat.add_right_cancel
      (s.waitingFor_setLane l { s.lane l with overflow := bump Config.counterTop (s.lane l).overflow } k i a n)
    omega
  | amend l p q y x fifo subject place =>
    have := s.waitingFor_setLane l { s.lane l with fifo := p ++ x :: q } k i a n
    rw [fifo, List.countP_append, List.countP_append, List.countP_cons, List.countP_cons] at this
    rcases place with ⟨module, element⟩ | fresh
    · have same : Notice.isOf k i a n x = Notice.isOf k i a n y := by
        simp only [Notice.isOf, subject.1, subject.2, module, element]
      rw [same] at this
      omega
    · by_cases hx : Notice.isOf k i a n x = true
      · have := State.waitingFor_of_fresh fresh hx
        rw [if_pos hx] at *
        omega
      · rw [if_neg hx] at this
        omega
  | _ => exact hs

theorem Touch.oneWaiting (h : Touch L s t) (hs : s.OneWaiting) : t.OneWaiting :=
  h.keeps (fun stroke ha i a n => ⟨stroke.waitingFor_le (.inl rfl) i a n (ha i a n).1,
    stroke.waitingFor_le (.inr rfl) i a n (ha i a n).2⟩) hs

end Sys2Proof.Machine

/-! # The strokes of the sweep assembler and of the resets of contexts -/

namespace Sys2Proof.Machine

variable {L : License} {s t u : State} {i : Nat} {m : ModuleIx}

/-! ## Reports -/

theorem touch_countReport (m : ModuleIx) (s : State) :
    Touch L s (s.updSweep m fun w => { w with received := bump 256 w.received }) := by
  refine touch_updModule_plain ?_ ?_ ?_ ?_ ?_ s m
  exacts [fun _ => rfl, fun _ => rfl, fun _ => id,
    fun _ ⟨h1, h2, h3, h4, h5⟩ => ⟨h1, h2, h3, h4, bump_le h5 le_rfl⟩, fun _ => rfl]

theorem touch_replaceSlot (m : ModuleIx) (e : Nat) (v : Word) (s : State) :
    Touch L s (s.updSweep m fun w => w.replace e v) := by
  have same : ∀ x : Slot, (if x.element = e then { x with value := v } else x).element = x.element := fun x => by
    split <;> rfl
  refine touch_setModule ⟨rfl, rfl, id, .inl, fun numbers y hy => ?_, fun empty => .inl ?_⟩ (.inl ?_)
  · obtain ⟨x, hx, rfl⟩ := List.mem_map.mp hy
    rw [same]
    exact numbers x hx
  · show List.map _ (s.module m).sweep.slots = []
    rw [empty]; rfl
  · exact le_of_eq (List.length_map _)

/-- A slot is added for an element of the module, while one is free (R21, R22). -/
theorem touch_addSlot {e : Nat} (v : Word) (open_ : (s.module m).state = .waiting ∨ (s.module m).state = .active)
    (number : e < (s.module m).entry.count) (free : s.slotsUsed < 256) :
    Touch L s (s.updSweep m fun w => { w with slots := w.slots ++ [⟨e, v⟩] }) := by
  refine touch_setModule ⟨rfl, rfl, id, .inl, fun numbers y hy => ?_, fun _ => .inr open_⟩ (.inr ?_)
  · rcases List.mem_append.mp hy with hy | hy
    · exact numbers y hy
    · rw [List.mem_singleton.mp hy]; exact number
  · have one_more : State.slotsUsed (s.setModule m _) + (s.module m).sweep.slots.length = s.slotsUsed + _ :=
      s.slotsUsed_setModule m
        { s.module m with sweep := { (s.module m).sweep with slots := (s.module m).sweep.slots ++ [⟨e, v⟩] } }
    rw [List.length_append, List.length_singleton] at one_more
    exact Nat.le_of_add_le_add_right (one_more.le.trans (by omega))

theorem touch_breakSweep (m : ModuleIx) (s : State) :
    Touch L s (s.updSweep m fun w => { w with slots := [], broken := true }) :=
  touch_setModule (.emptied rfl rfl rfl id rfl) (.inl (Nat.zero_le _))

theorem State.slotsUsed_countReport (s : State) (m : ModuleIx) :
    (s.updSweep m fun w => { w with received := bump 256 w.received }).slotsUsed = s.slotsUsed :=
  Nat.add_right_cancel (s.slotsUsed_setModule m _)

theorem touch_takeEntry (open_ : (s.module m).state = .waiting ∨ (s.module m).state = .active) (r : ReportEntry) :
    Touch L s (takeEntry m r s) := by
  have counted := touch_countReport (L := L) m s
  unfold takeEntry
  dsimp only
  split
  · exact counted.trans (touch_countRangeError _)
  · split
    · exact counted
    · split
      · exact counted.trans ((touch_replaceSlot _ _ _ _).trans (touch_captureReport _ _ _ _))
      · split
        · refine counted.trans ((touch_addSlot _ ?_ ?_ ?_).trans (touch_captureReport _ _ _ _))
          · rwa [counted.state]
          · rw [counted.entry]; omega
          · rwa [State.slotsUsed_countReport]
        · exact counted.trans (touch_breakSweep _ _)

theorem touch_takeEntries (open_ : (s.module m).state = .waiting ∨ (s.module m).state = .active) (es : List ReportEntry) :
    Touch L s (es.foldl (fun s r => takeEntry m r s) s) := by
  induction es generalizing s with
  | nil => exact .refl
  | cons r es ih =>
    have first := touch_takeEntry (L := L) open_ r
    exact first.trans (ih (by rwa [first.state]))

theorem touch_takeReport (m : ModuleIx) (es : List ReportEntry) (s : State) : Touch L s (takeReport m es s) := by
  unfold takeReport
  split
  · exact touch_takeEntries (.inl ‹_›) es
  · exact touch_takeEntries (.inr ‹_›) es
  all_goals exact .refl

/-! ## Sweep End -/

/-- The operation of a sweep that is applied: at the elements of its slots and of the module's range (R26). -/
theorem touch_applySweep (slots : ∀ x ∈ (s.module m).sweep.slots, L.wake ((s.module m).entry.base + x.element))
    (range : ∀ i ∈ s.boundTo m, L.wake i) (may : L.send) (n : Byte) : Touch L s (applySweep m n s) := by
  unfold applySweep
  dsimp only
  have reported := touch_foldl (f := fun t x => reportValue ((s.module m).entry.base + x.element) x.value t)
    (s.module m).sweep.slots (fun t x hx => touch_reportValue (L := L) (slots x hx) x.value t) s
  generalize (s.module m).sweep.slots.foldl _ s = s1 at reported ⊢
  have debounced := touch_foldl (f := fun t i => debounce i t) (s1.boundTo m)
    (fun t i hi => touch_debounce (L := L) (range i (reported.boundTo m ▸ hi)) may t) s1
  refine reported.trans (debounced.trans (Touch.trans ?_ (touch_toldApplied may _ _)))
  refine touch_setModule (.emptied rfl rfl rfl (fun ⟨h1, h2, h3, h4, _⟩ => ⟨h1, h2, h3, ?_, Nat.zero_le _⟩) rfl)
    (.inl (Nat.zero_le _))
  dsimp only
  split
  · exact bump_le h4 le_rfl
  · exact Nat.zero_le _

theorem touch_sweepEndActive (slots : ∀ x ∈ (s.module m).sweep.slots, L.wake ((s.module m).entry.base + x.element))
    (range : ∀ i ∈ s.boundTo m, L.wake i) (may : L.send) (n c : Byte) : Touch L s (sweepEndActive m n c s) := by
  have applied := touch_applySweep slots range may n
  unfold sweepEndActive
  dsimp only
  refine Touch.trans (Touch.trans ?_ (touch_startWatchdog _ _)) (touch_captureSweep _ _ _ _)
  split
  · exact (touch_discardSweep m s).trans (touch_countDuplicate _ _)
  · exact (touch_discardSweep m s).trans (touch_countRejected _ _)
  · exact (touch_discardSweep m s).trans (touch_countRejected _ _)
  · exact applied.trans (touch_countGap _ _)
  · exact applied

theorem touch_rejectWaiting (may : L.send) (n : Byte) (s : State) :
    Touch L s (requestResync m (captureSweep m n .waiting (countRejected m (discardSweep m s)))) :=
  ((touch_discardSweep m s).trans (touch_countRejected m _)).trans
    ((touch_captureSweep m n .waiting _).trans (touch_requestResync may m _))

/-- A join from its change of state on (R28): the notice, the baselines, and what the merger is told. -/
theorem touch_joined {base count : Nat} {w : OpenSweep} (wake : ∀ e < count, L.wake (base + e)) (may : L.send) (v : Int)
    (n : Byte) (s : State) : Touch L s (captureSweep m n .joined (toldJoined (discardSweep m
      ((List.range count).foldl (fun t e => baseline (base + e) ((w.value e).getD 0) t)
        (notify (systemNotice .moduleJoined m.addr 0 v) (startWatchdog m s)))))) := by
  have started := touch_startWatchdog (L := L) m s
  have announced := touch_notify (L := L) (n := systemNotice .moduleJoined m.addr 0 v) (s := startWatchdog m s) (.inl rfl)
  have baselined := touch_foldl (f := fun t e => baseline (base + e) ((w.value e).getD 0) t) (List.range count)
    (fun t e he => touch_baseline (L := L) (wake e (List.mem_range.mp he)) may _ t)
    (notify (systemNotice .moduleJoined m.addr 0 v) (startWatchdog m s))
  exact (started.trans announced).trans (baselined.trans ((touch_discardSweep _ _).trans
    ((touch_toldJoined may _).trans (touch_captureSweep _ _ _ _))))

/-! ## Elements one after the other -/

/-- What an operation on an element makes, and a run of strokes keeps, holds of each element of a list at its end. -/
theorem foldl_each {P : Nat → State → Prop} {f : State → Nat → State} (touch : ∀ s i, Touch L s (f s i))
    (make : ∀ s i, P i (f s i)) (keep : ∀ {s t} i, Touch L s t → P i s → P i t) (l : List Nat) (s : State) :
    ∀ i ∈ l, P i (l.foldl f s) := by
  induction l generalizing s with
  | nil => simp
  | cons a l ih =>
    intro i hi
    rcases List.mem_cons.mp hi with rfl | hi
    · exact keep _ (touch_foldl l (fun s b _ => touch s b) _) (make s _)
    · exact ih _ i hi

/-- At rest it stays where nothing may wake. -/
theorem Touch.stays (h : Touch L s t) (asleep : ¬ L.wake i) (rest : (s.element i).control.rested) :
    (t.element i).control.rested := (h.rested i rest).resolve_right asleep

theorem rested_openKey (asleep : ¬ L.wake i) (h : Touch L (s.updKey i openKey) t) {p : KeyParams} {c : KeyCtx}
    (key : (s.element i).control = .key p c) : (t.element i).control.rested := by
  refine h.stays asleep ?_
  rw [State.updKey_of_key key]
  simp [Control.rested, openKey]

theorem releaseKey_rested (f : Flags) {p : KeyParams} {c : KeyCtx} (key : (s.element i).control = .key p c) :
    ((releaseKey i f s).element i).control.rested := by
  refine rested_openKey (L := ⟨fun _ => False, False, False⟩) id ?_ key
  unfold releaseKey
  rw [key]
  dsimp only
  split
  · exact touch_giveNotice _ _ _ _ _
  · exact .refl

theorem State.rested_updLevel {f : LevelCtx → LevelCtx} (stops : ∀ c, (f c).timer = none) {p : LevelParams} {c : LevelCtx}
    (level : (s.element i).control = .level p c) : ((s.updLevel i f).element i).control.rested := by
  rw [State.updLevel_of_level level]
  simp [Control.rested, stops]

/-- Loss handling leaves an element at rest (R34, R77, R96). -/
theorem loseElement_rested (i : Nat) (s : State) : ((loseElement i s).element i).control.rested := by
  unfold loseElement
  split
  · exact releaseKey_rested _ ‹_›
  · rename_i p c h
    unfold clearSub
    rw [State.updEncoder_of_encoder h]
    simp [Control.rested]
  · exact State.rested_updLevel (fun _ => rfl) ‹_›
  · rename_i h; rw [h]; trivial
  · rename_i h; rw [h]; trivial

/-- The entry to Draining leaves an element at rest (R38, R39). -/
theorem drainElement_rested (i : Nat) (s : State) : ((drainElement i s).element i).control.rested := by
  unfold drainElement
  split
  · unfold drainKey
    have released := releaseKey_rested { removed := true } ‹(s.element i).control = _›
    exact ((touch_drainStale (L := ⟨fun _ => False, True, False⟩) _).trans (touch_drainEcho trivial _)).stays id released
  · rename_i p c h
    rw [State.updEncoder_of_encoder h]
    simp [Control.rested]
  · exact State.rested_updLevel (fun _ => rfl) ‹_›
  · rename_i h; rw [h]; trivial
  · rename_i h; rw [h]; trivial

/-! ## Resets of contexts (R51) -/

theorem Control.toIdle_rested (c : Control) : c.toIdle.rested := by cases c <;> simp [Control.toIdle, Control.rested,
  KeyCtx.idle, LevelCtx.idle]

theorem Control.not_toIdle_owesEcho (c : Control) : ¬ c.toIdle.owesEcho := by
  cases c <;> simp [Control.toIdle, Control.owesEcho, KeyCtx.idle]

theorem Control.toIdle_inRange {c : Control} (h : c.inRange) : c.toIdle.inRange := by
  cases c with
  | ignore => trivial
  | raw v => trivial
  | key p c =>
    obtain ⟨h1, h2, -⟩ := h
    exact ⟨h1, h2, Nat.zero_le _, Nat.zero_le _, Nat.zero_le _⟩
  | encoder p c =>
    obtain ⟨h1, h2, h3, h4, h5, -⟩ := h
    have := p.resolution.steps_pos
    refine ⟨h1, h2, h3, h4, h5, ?_, ?_, by decide, by decide, Nat.zero_le _⟩ <;> simp only [EncoderCtx.idle] <;> omega
  | level p c =>
    obtain ⟨h1, h2, h3, h4, -⟩ := h
    exact ⟨h1, h2, h3, h4, Nat.zero_le _, (fun _ h => by cases h), (fun _ h => by cases h)⟩

theorem Control.Moves.toIdle (r w f : Prop) (c : Control) : c.Moves r w f c.toIdle where
  cls := by cases c <;> rfl
  range := fun _ => Control.toIdle_inRange
  rest := fun _ => .inl c.toIdle_rested
  echo := fun h => (c.not_toIdle_owesEcho h).elim

theorem touch_resetContext (i : Nat) (s : State) : Touch L s (resetContext i s) := touch_setControl (.toIdle _ _ _ _)

theorem touch_offAtReset (may : L.send) (m : ModuleIx) (i : Nat) (s : State) : Touch L s (offAtReset m i s) := by
  unfold offAtReset
  repeat' split
  · exact touch_requestOff may _ _ _ _
  all_goals exact .refl

theorem touch_resetRange (e : ModuleEntry) (s : State) : Touch L s (resetRange e s) := by
  unfold resetRange
  split
  · exact touch_foldl _ (fun t i _ => touch_resetContext i t) s
  · exact .refl

theorem touch_resetBoundRange (may : L.send) (m : ModuleIx) (e : ModuleEntry) (s : State) :
    Touch L s (resetBoundRange m e s) := by
  unfold resetBoundRange
  split
  · exact touch_foldl _ (fun t i _ => (touch_offAtReset may m i t).trans (touch_resetContext i _)) s
  · exact .refl

theorem offAtReset_modules (m : ModuleIx) (i : Nat) (s : State) : (offAtReset m i s).modules = s.modules := by
  unfold offAtReset requestOff
  repeat' split
  all_goals rfl

theorem resetRange_modules (e : ModuleEntry) (s : State) : (resetRange e s).modules = s.modules := by
  unfold resetRange
  split
  · exact foldl_keeps (P := fun t => t.modules = s.modules) (f := fun t i => resetContext i t) (fun t i h => h) _ rfl
  · rfl

theorem resetBoundRange_modules (m : ModuleIx) (e : ModuleEntry) (s : State) :
    (resetBoundRange m e s).modules = s.modules := by
  unfold resetBoundRange
  split
  · exact foldl_keeps (P := fun t => t.modules = s.modules) (f := fun t i => resetContext i (offAtReset m i t))
      (fun t i h => (offAtReset_modules m i t).trans h) _ rfl
  · rfl

/-- The element is at rest and owes no echo, or the outbound queue is full. -/
def State.cleared (i : Nat) (s : State) : Prop :=
  (s.element i).control.rested ∧ ((s.element i).control.owesEcho → s.full)

theorem cleared_resetContext (i : Nat) (s : State) : (resetContext i s).cleared i := by
  unfold State.cleared resetContext
  rw [State.element_setControl]
  exact ⟨Control.toIdle_rested _, fun h => (Control.not_toIdle_owesEcho _ h).elim⟩

theorem Touch.cleared (h : Touch L s t) (asleep : ¬ L.wake i) (hs : s.cleared i) : t.cleared i :=
  ⟨h.stays asleep hs.1, fun owes => (h.owesEcho i owes).elim (fun e => h.full (hs.2 e)) id⟩

theorem ModuleEntry.mem_range_of_binds {e : ModuleEntry} (h : e.binds i = true) : e.enabled = true ∧ i ∈ e.range := by
  simp only [ModuleEntry.binds, Bool.and_eq_true, decide_eq_true_eq] at h
  obtain ⟨on, lower, upper⟩ := h
  exact ⟨on, List.mem_map.mpr ⟨i - e.base, List.mem_range.mpr (by omega), by omega⟩⟩

theorem ModuleEntry.binds_of_mem_range {e : ModuleEntry} (on : e.enabled = true) (h : i ∈ e.range) : e.binds i = true := by
  obtain ⟨k, hk, rfl⟩ := List.mem_map.mp h
  rw [List.mem_range] at hk
  simp [ModuleEntry.binds, on, hk]

theorem cleared_resetRange {e : ModuleEntry} (h : e.binds i = true) (s : State) : (resetRange e s).cleared i := by
  obtain ⟨on, mem⟩ := ModuleEntry.mem_range_of_binds h
  unfold resetRange
  rw [if_pos on]
  exact foldl_each (P := State.cleared) (L := ⟨fun _ => False, False, False⟩) (fun t i => touch_resetContext i t)
    (fun t i => cleared_resetContext i t) (fun _ run => run.cleared id) _ s i mem

theorem cleared_resetBoundRange {e : ModuleEntry} (h : e.binds i = true) (m : ModuleIx) (s : State) :
    (resetBoundRange m e s).cleared i := by
  obtain ⟨on, mem⟩ := ModuleEntry.mem_range_of_binds h
  unfold resetBoundRange
  rw [if_pos on]
  exact foldl_each (P := State.cleared) (L := ⟨fun _ => False, True, False⟩)
    (fun t i => (touch_offAtReset trivial m i t).trans (touch_resetContext i _))
    (fun t i => cleared_resetContext i _) (fun _ run => run.cleared id) _ s i mem

end Sys2Proof.Machine

/-! # The events of a step

A step is a run of events, each with the facts that its operation makes it under; an invariant of every step is proved of
the events, once for each. -/

namespace Sys2Proof.Machine

/-! ## What an event may do -/

/-- An element that an event may wake: one not at rest, or one that an Active module's range or open sweep names. -/
def State.mayWake (s : State) (i : Nat) : Prop :=
  ¬ (s.element i).control.rested ∨ ∃ m, (s.module m).state = .active ∧ (s.module m).entry.enabled = true ∧
    ((s.module m).entry.binds i = true ∨ ∃ x ∈ (s.module m).sweep.slots, i = (s.module m).entry.base + x.element)

/-- The license of a run of strokes from `s` on. -/
def State.license (s : State) : License := ⟨s.mayWake, s.holding = false, s.InRange⟩

/-- A license that wakes no element. -/
def License.quiet (send : Prop) : License := ⟨fun _ => False, send, True⟩

/-- The settings record within its ranges (R150). -/
def Settings.inRange (x : Settings) : Prop :=
  10 ≤ x.briskTimeout ∧ x.briskTimeout ≤ 10000 ∧ 100 ≤ x.slowTimeout ∧ x.slowTimeout ≤ 60000 ∧ x.quiet ≤ 255 ∧
    x.ceiling ≤ 7 ∧ 1 ≤ x.burst ∧ x.burst ≤ 32

/-- A repeat profile within its ranges (R68). -/
def Profile.inRange (x : Profile) : Prop :=
  1 ≤ x.delay ∧ x.delay ≤ 65535 ∧ 1 ≤ x.interval ∧ x.interval ≤ 65535 ∧ x.limit ≤ 255

/-- A lane entry within its ranges (R115). -/
def LaneEntry.inRange (x : LaneEntry) : Prop := x.priority ≤ 7 ∧ 1 ≤ x.quota ∧ x.quota ≤ 128 ∧ x.limit ≤ 65535

/-- A module entry within the element table (R19). -/
def ModuleEntry.inTable (e : ModuleEntry) : Prop := 1 ≤ e.count ∧ e.count ≤ 64 ∧ e.base + e.count ≤ 1024

/-- No enabled entry but that of `m` binds an index that `e` binds (R19). -/
def State.apart (s : State) (m : ModuleIx) (e : ModuleEntry) : Prop :=
  ∀ k i, (s.module k).entry.binds i = true → e.binds i = true → k = m

/-- The module `y` stands in the place of `x`: with the entry and the open sweep of `x`, in range and owing a Resync
Request only where `x` is and does. -/
structure Module.Follows (x y : Module) : Prop where
  entry : y.entry = x.entry
  slots : y.sweep.slots = x.sweep.slots
  range : x.inRange → y.inRange
  owed  : y.resyncOwed = true → x.resyncOwed = true

/-! ## Events -/

/-- One event of a step. -/
inductive Event : State → State → Prop
  | touch {s t : State} (run : Touch s.license s t) : Event s t
  | lines {s : State} (surface console : Framer) (pauseIn : Bool) (rx : Line) (d : Detector) (reset : Bool) (cause : Cause)
      (held : (reset || d == .broken) = true → s.holding = true ∨ s.outbound = [])
      (clear : (s.powerReset = true → s.detector = .clear) → reset = true → d = .clear) :
      Event s { s with surfaceFramer := surface, consoleFramer := console, pauseIn := pauseIn, consoleRx := rx,
                       detector := d, powerReset := reset, resetCause := cause }
  | cold {s : State} : Event s (beginCold s)
  | warm {s : State} : Event s (beginWarm s)
  | unbreak {s t : State} (broken : s.detector = .broken) (f : Frame)
      (run : Touch (.quiet True) (State.pushOut f false { s with detector := .clear }) t) : Event s t
  | queues {s : State} (tx : Option ConsoleFrame) (burst : Nat) (pass : List Frame) (stack : List (Fin 8))
      (requests : List Request) (replies : List Reply) (burst_le : s.burst ≤ 32 → burst ≤ 32)
      (pass_le : s.passQueue.length ≤ 16 → pass.length ≤ 16) (requests_le : s.requests.length ≤ 4 → requests.length ≤ 4)
      (replies_le : s.replies.length ≤ 4 → replies.length ≤ 4) (nodup : s.stack.Nodup → stack.Nodup)
      (pool : tx = s.consoleTx ∨ ∀ n, tx ≠ some (.notice n)) :
      Event s { s with consoleTx := tx, burst := burst, passQueue := pass, stack := stack, requests := requests,
                       replies := replies }
  | taken {s : State} (l : Fin 8) (n : Notice) (rest : List Notice) (burst : Nat) (fifo : (s.lane l).fifo = n :: rest)
      (idle : s.consoleTx = none) (burst_le : s.burst ≤ 32 → burst ≤ 32) :
      Event s { s.setLane l { s.lane l with fifo := rest } with consoleTx := some (.notice n), burst := burst }
  | clock {s : State} (l : Fin 8) (timer : Timer) (overdue : Bool) :
      Event s (s.setLane l { s.lane l with timer := timer, overdue := overdue })
  | head {s : State} (h : HeadCondition)
      (flush : ∀ m e, h = .flushing m e → (s.module m).state = .draining ∧ e.inTable ∧ s.apart m e) :
      Event s { s with head := h }
  | settings {s : State} (x : Settings) (range : x.inRange) : Event s { s with settings := x }
  | profile {s : State} (p : Fin 8) (x : Profile) (range : x.inRange) :
      Event s { s with profiles := s.profiles.set p x }
  | entry {s : State} (l : Fin 8) (e : LaneEntry) (range : e.inRange) :
      Event s (s.setLane l { s.lane l with entry := e })
  | clearOverflows {s : State} : Event s { s with lanes := mapAll (fun x => { x with overflow := 0 }) s.lanes }
  | become {s : State} (m : ModuleIx) (x : Module) (was : (s.module m).state = .waiting ∨ (s.module m).state = .silent)
      (now : x.state = .waiting ∨ x.state = .active) (follows : (s.module m).Follows x) : Event s (s.setModule m x)
  | retire {s t : State} (m : ModuleIx) (x : Module) (was : (s.module m).state = .active)
      (now : x.state = .silent ∨ x.state = .draining) (slots : (s.module m).sweep.slots = [])
      (follows : (s.module m).Follows x) (run : Touch (.quiet (s.holding = false)) (s.setModule m x) t)
      (rest : ∀ i, (s.module m).entry.binds i = true → (t.element i).control.rested) : Event s t
  | install {s u v : State} (m : ModuleIx) (e : ModuleEntry) (y : Module) (r : Reply)
      (head : s.head = .ready ∧ (s.module m).state ≠ .active ∧ e.inTable ∧ s.apart m e ∧ (s.module m).sweep.slots = [] ∨
        s.head = .flushing m e)
      (run : Touch (.quiet (s.holding = false)) (s.updModule m fun x => { x with entry := e }) u)
      (same : u.modules = (s.updModule m fun x => { x with entry := e }).modules)
      (cleared : ∀ i, (s.module m).entry.binds i = true ∨ e.binds i = true → u.cleared i)
      (now : y.state ≠ .active) (follows : (u.module m).Follows y)
      (after : Touch (.quiet (s.holding = false)) (u.setModule m y) v) : Event s { v with head := .awaitingSlot r }
  | write {s : State} (i : Nat) (e : Element) (index : i < 1024) (range : e.control.inRange) (rest : e.control.rested)
      (echo : ¬ e.control.owesEcho) : Event s (s.setElement i e)
  | retune {s t : State} (i : Nat) (c : Control) (cls : c.classByte = (s.element i).control.classByte)
      (range : (s.element i).control.inRange → c.inRange) (rest : (s.element i).control.rested → c.rested)
      (run : Touch (.quiet (s.holding = false)) (s.setControl i c) t)
      (echo : (t.element i).control.owesEcho → (s.element i).control.owesEcho ∨ t.full) : Event s t
  | sent {s t : State} (busy : s.surfaceSending = true)
      (run : Touch (.quiet True) { s with outbound := s.outbound.tail, surfaceSending := false } t)
      (paid : t.outboundRoom = true → owedFrame t = none) : Event s t
  | start {s : State} (waits : s.outbound ≠ []) : Event s { s with surfaceSending := true }
  | ticks {s : State} : Event s (countTimers s)

/-- A run of events. -/
abbrev Events : State → State → Prop := Relation.ReflTransGen Event

variable {L : License} {s t u : State} {i : Nat} {m : ModuleIx}

theorem Events.trans (h : Events s t) (h' : Events t u) : Events s u := Relation.ReflTransGen.trans h h'

theorem Events.of (h : Event s t) : Events s t := Relation.ReflTransGen.single h

theorem Events.touch (h : Touch s.license s t) : Events s t := .of (.touch h)

theorem events_foldl {α : Type} {f : State → α → State} (step : ∀ s a, Events s (f s a)) (l : List α) (s : State) :
    Events s (l.foldl f s) := foldl_keeps (P := Events s) (fun t a h => h.trans (step t a)) l .refl

/-- What every event keeps, a run of events keeps. -/
theorem Events.keeps {P : State → Prop} (h : ∀ {s t}, Event s t → P s → P t) (run : Events s t) (hs : P s) : P t := by
  induction run with
  | refl => exact hs
  | tail _ event ih => exact h event ih

/-! ## Lines and framers -/

theorem events_setFramer (p : Port) (x : Framer) (s : State) : Events s (s.setFramer p x) := by
  cases p
  · exact .of (.lines x s.consoleFramer s.pauseIn s.consoleRx s.detector s.powerReset s.resetCause .inl id)
  · exact .of (.lines s.surfaceFramer x s.pauseIn s.consoleRx s.detector s.powerReset s.resetCause .inl id)

theorem events_consoleRx (x : Line) (s : State) : Events s { s with consoleRx := x } :=
  .of (.lines s.surfaceFramer s.consoleFramer s.pauseIn x s.detector s.powerReset s.resetCause .inl id)

theorem events_pauseIn (b : Bool) (s : State) : Events s { s with pauseIn := b } :=
  .of (.lines s.surfaceFramer s.consoleFramer b s.consoleRx s.detector s.powerReset s.resetCause .inl id)

theorem events_resetCause (c : Cause) (s : State) : Events s { s with resetCause := c } :=
  .of (.lines s.surfaceFramer s.consoleFramer s.pauseIn s.consoleRx s.detector s.powerReset c .inl id)

/-- The detector moves between Clear and Spacing Seen (R14), or away from a break. -/
theorem events_detector {d : Detector} (now : d ≠ .broken) (clear : d = .clear ∨ s.powerReset = false) :
    Events s { s with detector := d } := by
  refine .of (.lines s.surfaceFramer s.consoleFramer s.pauseIn s.consoleRx d s.powerReset s.resetCause
    (fun held => ?_) fun _ reset => clear.resolve_right (by simp [reset]))
  have reset : s.powerReset = true := by simpa [now] using held
  exact .inl (by simp [State.holding, reset])

/-- The block is held from a reset state on (R15, R158). -/
theorem events_held (empty : s.outbound = []) {d : Detector} {b : Bool} (clear : b = true → d = .clear) :
    Events s { s with detector := d, powerReset := b } :=
  .of (.lines s.surfaceFramer s.consoleFramer s.pauseIn s.consoleRx d b s.resetCause (fun _ => .inr empty)
    fun _ => clear)

/-! ## Queues -/

theorem events_stack {stack : List (Fin 8)} (nodup : s.stack.Nodup → stack.Nodup) : Events s { s with stack := stack } :=
  .of (.queues s.consoleTx s.burst s.passQueue stack s.requests s.replies id id id id nodup (.inl rfl))

theorem events_clock (l : Fin 8) (timer : Timer) (overdue : Bool) (s : State) :
    Events s (s.setLane l { s.lane l with timer := timer, overdue := overdue }) := .of (.clock l timer overdue)

theorem events_notify {n : Notice} (free : n.kind.free = true) (s : State) : Events s (notify n s) :=
  .touch (touch_notify (.inl free))

theorem events_servicePass (s : State) : Events s (servicePass s) := .touch (touch_servicePass s)

theorem events_passFrame (f : Frame) (s : State) : Events s (passFrame f s) := by
  unfold passFrame
  split
  · rename_i room
    refine .of (.queues s.consoleTx s.burst (s.passQueue ++ [f]) s.stack s.requests s.replies id (fun _ => ?_) id id id
      (.inl rfl))
    rw [List.length_append, List.length_singleton]
    exact room
  · exact .touch (touch_countPassDrop s)

theorem events_leaveService (l : Fin 8) (s : State) : Events s (leaveService l s) :=
  (events_stack (List.Nodup.filter _)).trans (events_clock l none (s.lane l).overdue _)

theorem events_serviceDone (l : Fin 8) (s : State) : Events s (serviceDone l s) := by
  unfold serviceDone
  split
  · exact events_leaveService l s
  · split
    · exact (events_clock l (s.lane l).timer false s).trans (events_notify rfl _)
    · exact events_notify rfl s

theorem events_serviceOverdue (l : Fin 8) (s : State) : Events s (serviceOverdue l s) :=
  ((events_leaveService l s).trans (events_clock l ((leaveService l s).lane l).timer true _)).trans (events_notify rfl _)

theorem events_takeReply (s : State) : Events s (takeReply s) := by
  unfold takeReply
  split
  · exact .refl
  · rename_i r rest waiting
    refine .of (.queues (some (.reply r)) s.burst s.passQueue s.stack s.requests rest id id id (fun h => ?_) id
      (.inr fun n h => by cases h))
    rw [waiting, List.length_cons] at h
    omega

theorem events_takePass (s : State) : Events s (takePass s) := by
  unfold takePass
  split
  · exact .refl
  · rename_i f rest waiting
    refine .of (.queues (some (.pass f)) 0 rest s.stack s.requests s.replies (fun _ => Nat.zero_le _) (fun h => ?_) id id id
      (.inr fun n h => by cases h))
    rw [waiting, List.length_cons] at h
    omega

/-- A lane out of service that enters it stands in the stack once (R123). -/
theorem events_enterService {l : Fin 8} (out : l ∉ s.stack) : Events s (enterService l s) := by
  have entered : Events s { s with stack := s.stack ++ [l] } := events_stack fun h =>
    List.nodup_append.mpr ⟨h, by simp, fun a ha b hb => by rw [List.mem_singleton.mp hb]; exact fun e => out (e ▸ ha)⟩
  unfold enterService
  dsimp only
  split
  · exact entered.trans (events_clock l (some (s.lane l).entry.limit) (s.lane l).overdue _)
  · exact entered

theorem burstAfterNotice_le (h : s.burst ≤ 32) : burstAfterNotice s ≤ 32 := by
  unfold burstAfterNotice
  split
  · exact Nat.zero_le _
  · exact bump_le h le_rfl

theorem events_takeNotice {l : Fin 8} (idle : s.consoleTx = none) (out : l ∉ s.stack) : Events s (takeNotice l s) := by
  unfold takeNotice
  split
  · exact .refl
  · rename_i n rest fifo
    dsimp only
    have taken := Event.taken l n rest (burstAfterNotice s) fifo idle burstAfterNotice_le
    generalize he : ({ s.setLane l { s.lane l with fifo := rest } with
      consoleTx := some (.notice n), burst := burstAfterNotice s } : State) = s2 at taken ⊢
    have stack : s2.stack = s.stack := by rw [← he]; rfl
    have served : Events s (match (s.lane l).entry.mode with | .held => enterService l s2 | .plain => s2) := by
      cases (s.lane l).entry.mode with
      | held => exact (Events.of taken).trans (events_enterService (stack ▸ out))
      | plain => exact .of taken
    split
    · exact served.trans (events_servicePass _)
    · exact served

theorem events_frameSent (s : State) : Events s (frameSent s) := by
  have idle : Events s { s with consoleTx := none } :=
    .of (.queues none s.burst s.passQueue s.stack s.requests s.replies id id id id id (.inr fun n h => by cases h))
  unfold frameSent
  split
  · exact .refl
  · exact idle.trans (events_servicePass _)
  · exact idle
  · exact idle

/-! ## Restarts -/

theorem events_announce (c : Cause) (s : State) : Events s (announce c s) :=
  ((events_resetCause c s).trans (events_notify rfl _)).trans (events_servicePass _)

/-- The frames of a restart's completion after its Pace frame (R144). -/
theorem touch_restartResyncs (may : L.send) (s : State) :
    Touch L (s.pushOut (paceFrame .brisk) false) (restartFrames s) := by
  unfold restartFrames
  exact touch_foldl _ (fun t m _ => touch_requestResync may m t) _

theorem events_beginWarm_frames (free : s.holding = false) : Events s (restartFrames (beginWarm s)) := by
  have running : (beginWarm s).holding = false := by
    have reset : s.powerReset = false := by
      simp only [State.holding, Bool.or_eq_false_iff] at free
      exact free.1
    simp [beginWarm, beginCold, State.blank, State.holding, reset]
  refine (Events.of .warm).trans (.touch ?_)
  have pushed : Touch (beginWarm s).license (beginWarm s) ((beginWarm s).pushOut (paceFrame .brisk) false) :=
    touch_pushOut running _ rfl
  exact pushed.trans (touch_restartResyncs running _)

theorem events_restart (free : s.holding = false) (f : RestartForm) : Events s (restart f s) := by
  cases f
  · simp only [restart, restartCold, completeCold]
    exact (Events.of .cold).trans (events_announce _ _)
  · simp only [restart, restartWarm, completeWarm]
    exact (events_beginWarm_frames free).trans (events_announce _ _)

/-- The end of a link break (R16). -/
theorem events_breakEnds (broken : s.detector = .broken) :
    Events s (completeWarm .linkBreak { s with consoleRx := .marking, detector := .clear }) := by
  have marking := events_consoleRx .marking s
  generalize hs : ({ s with consoleRx := .marking } : State) = r at marking
  have ended : Event r (restartFrames { r with detector := .clear }) :=
    .unbreak (by rw [← hs]; exact broken) (paceFrame .brisk) (touch_restartResyncs trivial _)
  have same : ({ s with consoleRx := .marking, detector := .clear } : State) = { r with detector := .clear } := by
    rw [← hs]
  rw [same]
  unfold completeWarm
  exact (marking.trans (.of ended)).trans (events_announce _ _)

theorem events_breakDetected (free : s.powerReset = false) : Events s (breakDetected s) := by
  have warm : Events s (beginWarm s) := .of .warm
  have empty : (beginWarm s).outbound = [] := by simp only [beginWarm, beginCold, State.blank]
  have reset : (beginWarm s).powerReset = false := by simp only [beginWarm, beginCold, free]
  unfold breakDetected
  generalize beginWarm s = w at warm empty reset ⊢
  have held := events_held (s := w) empty (d := .broken) (b := false) fun h => by cases h
  rw [← reset] at held
  exact (warm.trans held).trans (events_consoleRx .spacing _)

end Sys2Proof.Machine

/-! # Every step is a run of events -/

namespace Sys2Proof.Machine

variable {L : License} {s t u : State} {i : Nat} {m : ModuleIx}

/-! ## Modules -/

theorem State.binds_of_mem_boundTo (h : i ∈ s.boundTo m) : (s.module m).entry.binds i = true := by
  unfold State.boundTo at h
  split at h
  · exact ModuleEntry.binds_of_mem_range ‹_› h
  · cases h

theorem State.mem_boundTo_of_binds (h : (s.module m).entry.binds i = true) : i ∈ s.boundTo m := by
  obtain ⟨on, mem⟩ := ModuleEntry.mem_range_of_binds h
  unfold State.boundTo
  rwa [if_pos on]

theorem State.mayWake_of_binds (active : (s.module m).state = .active) (on : (s.module m).entry.enabled = true)
    (h : (s.module m).entry.binds i = true) : s.mayWake i := .inr ⟨m, active, on, .inl h⟩

theorem State.mayWake_of_slot (active : (s.module m).state = .active) (on : (s.module m).entry.enabled = true) {x : Slot}
    (h : x ∈ (s.module m).sweep.slots) : s.mayWake ((s.module m).entry.base + x.element) :=
  .inr ⟨m, active, on, .inr ⟨x, h, rfl⟩⟩

theorem events_sweepEndActive (free : s.holding = false) (on : (s.module m).entry.enabled = true)
    (active : (s.module m).state = .active) (n c : Byte) : Events s (sweepEndActive m n c s) :=
  .touch (touch_sweepEndActive (L := s.license) (fun _ hx => State.mayWake_of_slot active on hx)
    (fun _ hi => State.mayWake_of_binds active on (State.binds_of_mem_boundTo hi)) free n c)

theorem events_joinModule (free : s.holding = false) (on : (s.module m).entry.enabled = true)
    (waiting : (s.module m).state = .waiting) (n : Byte) : Events s (joinModule m n s) := by
  have joins : Event s (s.updModule m fun x =>
      { x with state := .active, lastApplied := some n, emptyRun := 0, resyncOwed := false }) :=
    .become m _ (.inl waiting) (.inr rfl) ⟨rfl, rfl, fun ⟨h1, h2, h3, _, h5⟩ => ⟨h1, h2, h3, Nat.zero_le _, h5⟩,
      fun h => by cases h⟩
  unfold joinModule
  dsimp only
  refine (Events.of joins).trans ?_
  generalize hu : s.updModule m _ = u
  have active : (u.module m).state = .active := by simp [← hu, State.updModule]
  have entry : (u.module m).entry = (s.module m).entry := by simp [← hu, State.updModule]
  have running : u.holding = false := by rw [← hu]; exact free
  refine .touch (touch_joined (L := u.license) (fun e he => ?_) running _ n u)
  refine State.mayWake_of_binds active (entry ▸ on) ?_
  simp [entry, ModuleEntry.binds, on, he]

theorem events_sweepEndSilent (free : s.holding = false) (silent : (s.module m).state = .silent) (n : Byte) :
    Events s (sweepEndSilent m n s) := by
  have counted : Touch s.license s (captureSweep m n .waiting (countRejected m s)) :=
    (touch_countRejected m s).trans (touch_captureSweep m n .waiting _)
  unfold sweepEndSilent
  have state := counted.state m
  have desk := counted.desk
  refine (Events.touch counted).trans ?_
  generalize captureSweep m n .waiting (countRejected m s) = u at state desk ⊢
  have waits : Event u (u.updModule m fun x => { x with state := .waiting }) :=
    .become m _ (.inr (state.trans silent)) (.inl rfl) ⟨rfl, rfl, id, id⟩
  exact (Events.of waits).trans (.touch (touch_requestResync ((State.holding_of_desk desk).trans free) m _))

theorem events_takeSweepEnd (free : s.holding = false) (on : (s.module m).entry.enabled = true) (n c f : Byte) :
    Events s (takeSweepEnd m n c f s) := by
  have viewed : Touch s.license s (updateView m s) := touch_updateView m s
  have entry := viewed.entry m
  have state := viewed.state m
  have free' : (updateView m s).holding = false := (State.holding_of_desk viewed.desk).trans free
  unfold takeSweepEnd
  split
  · rename_i active
    exact (Events.touch viewed).trans (events_sweepEndActive free' (entry ▸ on) (state.trans active) n c)
  · rename_i waiting
    refine (Events.touch viewed).trans ?_
    unfold sweepEndWaiting
    split
    · exact events_joinModule free' (entry ▸ on) (state.trans waiting) n
    · exact .touch (touch_rejectWaiting free' n _)
  · rename_i silent
    exact (Events.touch viewed).trans (events_sweepEndSilent free' (state.trans silent) n)
  · exact (Events.touch viewed).trans
      (.touch ((touch_countRejected m _).trans (touch_captureSweep m n .draining _)))
  · exact .refl

theorem dropSweep_slots (m : ModuleIx) (s : State) : ((dropSweep m s).module m).sweep.slots = [] := by
  simp [dropSweep, discardSweep, State.setMark, State.updSweep, State.updModule, OpenSweep.empty]

/-- An Active module leaves that state with the elements of its range at rest (R34, R38). -/
theorem events_retire {f : Module → Module} {g : State → Nat → State} {l : List Nat} {v : State}
    (active : (s.module m).state = .active) (now : (f (s.module m)).state = .silent ∨ (f (s.module m)).state = .draining)
    (slots : (s.module m).sweep.slots = []) (follows : (s.module m).Follows (f (s.module m)))
    (before : Touch (.quiet (s.holding = false)) (s.updModule m f) v)
    (touch : ∀ t i, Touch (.quiet (s.holding = false)) t (g t i)) (rests : ∀ t i, ((g t i).element i).control.rested)
    (all : ∀ i, (s.module m).entry.binds i = true → i ∈ l) : Events s (l.foldl g v) := by
  refine .of (.retire m _ active now slots follows (before.trans (touch_foldl l (fun t i _ => touch t i) v)) fun i bound => ?_)
  exact foldl_each (P := fun i t => (t.element i).control.rested) touch rests (fun i run => run.stays id) l v i (all i bound)

theorem events_watchdogLoss (active : (s.module m).state = .active) : Events s (watchdogLoss m s) := by
  have dropped : Touch s.license s (dropSweep m s) := touch_dropSweep m s
  have slots := dropSweep_slots m s
  have state := dropped.state m
  have entry := dropped.entry m
  unfold watchdogLoss
  dsimp only
  refine (Events.touch dropped).trans ?_
  generalize dropSweep m s = u at state entry slots ⊢
  refine events_retire (m := m) (state.trans active) (.inl rfl) slots ⟨rfl, rfl, id, id⟩
    (touch_notify (n := systemNotice .moduleLost m.addr 0 0) (.inl rfl)) (fun t i => touch_loseElement t)
    (fun t i => loseElement_rested i t) fun i bound => ?_
  exact State.mem_boundTo_of_binds (entry ▸ bound)

theorem events_enterDraining (free : s.holding = false) (active : (s.module m).state = .active) :
    Events s (enterDraining m s) := by
  have dropped : Touch s.license s (dropSweep m s) := touch_dropSweep m s
  have slots := dropSweep_slots m s
  have state := dropped.state m
  have running := (State.holding_of_desk dropped.desk).trans free
  unfold enterDraining
  dsimp only
  refine (Events.touch dropped).trans (Events.trans ?_ (events_servicePass _))
  generalize dropSweep m s = u at state slots running ⊢
  refine events_retire (m := m) (state.trans active) (.inr rfl) slots ⟨rfl, rfl, id, id⟩ .refl
    (fun t i => touch_drainElement running t) (fun t i => drainElement_rested i t) fun i bound => ?_
  refine State.mem_boundTo_of_binds ?_
  simpa [State.updModule] using bound

/-- What entering Draining changes of a module: its state (R37). -/
theorem enterDraining_module (m : ModuleIx) (s : State) :
    ((enterDraining m s).module m).state = .draining ∧
      ∀ k, ((enterDraining m s).module k).entry = (s.module k).entry := by
  have dropped : Touch (.quiet True) s (dropSweep m s) := touch_dropSweep m s
  have entry := dropped.entry
  unfold enterDraining
  dsimp only
  generalize dropSweep m s = u at entry ⊢
  have drained : Touch (.quiet True) (u.updModule m fun x => { x with state := .draining, watchdog := none }) _ :=
    (touch_foldl (f := fun t i => drainElement i t)
      ((u.updModule m fun x => { x with state := .draining, watchdog := none }).boundTo m)
      (fun t i _ => touch_drainElement trivial t) _).trans (touch_servicePass _)
  refine ⟨(drained.state m).trans (by simp [State.updModule]), fun k => (drained.entry k).trans ?_⟩
  rw [← entry k]
  by_cases same : k = m
  · subst same; simp [State.updModule]
  · simp [State.updModule, State.module_setModule_of_ne _ same]

/-- The end of a change of entry, and the reply (R36, R41). -/
theorem events_enterMapped (r : Reply) {e : ModuleEntry}
    (head : s.head = .ready ∧ (s.module m).state ≠ .active ∧ e.inTable ∧ s.apart m e ∧ (s.module m).sweep.slots = [] ∨
      s.head = .flushing m e)
    (free : s.holding = false) (run : Touch (.quiet (s.holding = false)) (s.updModule m fun x => { x with entry := e }) u)
    (same : u.modules = (s.updModule m fun x => { x with entry := e }).modules)
    (cleared : ∀ i, (s.module m).entry.binds i = true ∨ e.binds i = true → u.cleared i) :
    Events s { enterMapped m e u with head := .awaitingSlot r } := by
  have count : ∀ {x : Module}, x.inRange → Module.inRange { x with lastApplied := none, emptyRun := 0 } :=
    fun ⟨h1, h2, h3, _, h5⟩ => ⟨h1, h2, h3, Nat.zero_le _, h5⟩
  unfold enterMapped
  dsimp only [State.updModule]
  rw [State.module_setModule, State.setModule_setModule, State.setModule_setModule]
  split
  · exact .of (.install m e { u.module m with lastApplied := none, emptyRun := 0, state := .waiting } r head run same cleared
      (by simp) ⟨rfl, rfl, count, id⟩ (touch_requestResync free m _))
  · exact .of (.install m e
      { u.module m with lastApplied := none, emptyRun := 0, state := .unmapped, resyncOwed := false } r head run same cleared
      (by simp) ⟨rfl, rfl, count, fun h => by cases h⟩ .refl)

theorem events_installAtOnce (r : Request) {e : ModuleEntry} (was : (s.module m).state ≠ .active) (ready : s.head = .ready)
    (table : e.inTable) (apart : s.apart m e) (free : s.holding = false) :
    Events s (done r (installAtOnce m e s)) := by
  have dropped : Touch s.license s (dropSweep m s) := touch_dropSweep m s
  have slots := dropSweep_slots m s
  have desk := dropped.desk
  have running := (State.holding_of_desk desk).trans free
  have apart' : (dropSweep m s).apart m e := fun k i hk => apart k i (dropped.entry k ▸ hk)
  have entry := dropped.entry m
  unfold installAtOnce done answer
  dsimp only
  refine (Events.touch dropped).trans (events_enterMapped _
    (.inl ⟨(State.head_of_desk desk).trans ready, (dropped.state m).trans_ne was, table, apart', slots⟩) running ?_ ?_ fun i bound => ?_)
  · exact (touch_resetBoundRange running m _ _).trans (touch_resetRange e _)
  · rw [resetRange_modules, resetBoundRange_modules]
  · rcases bound with old | new
    · exact (touch_resetRange (L := .quiet True) e _).cleared id (cleared_resetBoundRange (entry ▸ old) m _)
    · exact cleared_resetRange new _

theorem events_completeFlush (r : Request) {e : ModuleEntry} (head : s.head = .flushing m e) (free : s.holding = false) : Events s (done r (completeFlush m e s)) := by
  unfold completeFlush done answer
  dsimp only
  refine events_enterMapped _ (.inr head) free ?_ ?_ fun i bound => ?_
  · exact (touch_resetRange _ _).trans (touch_resetRange e _)
  · rw [resetRange_modules, resetRange_modules]
  · rcases bound with old | new
    · exact (touch_resetRange (L := .quiet True) e _).cleared id (cleared_resetRange old _)
    · exact cleared_resetRange new _

end Sys2Proof.Machine

/-! # The requests as events -/

namespace Sys2Proof.Machine

variable {L : License} {s t u : State} {i : Nat} {m : ModuleIx}

/-! ## Records in range -/

theorem byte_le (b : Byte) : b.toNat ≤ 255 := Nat.le_of_lt_succ b.isLt

theorem word_le (w : Word) : w.toNat ≤ 65535 := Nat.le_of_lt_succ w.isLt

theorem settingsOf_inRange {b w : Word} {q c k : Byte} {x : Settings} (h : settingsOf b w q c k = some x) : x.inRange := by
  unfold settingsOf at h
  split at h
  · rename_i range
    cases h
    obtain ⟨h1, h2, h3, h4, h5, h6, h7⟩ := range
    exact ⟨h1, h2, h3, h4, byte_le q, h5, h6, h7⟩
  · cases h

theorem profileOf_inRange {d n : Word} {l : Byte} {x : Profile} (h : profileOf d n l = some x) : x.inRange := by
  unfold profileOf at h
  split at h
  · rename_i range
    cases h
    exact ⟨range.1, word_le d, range.2, word_le n, byte_le l⟩
  · cases h

theorem laneEntryOf_inRange {p k m u q : Byte} {w : Word} {x : LaneEntry} (h : laneEntryOf p k m u q w = some x) :
    x.inRange := by
  unfold laneEntryOf at h
  split at h
  · rename_i range
    cases h
    exact ⟨range.1, range.2.2.1, range.2.2.2, word_le w⟩
  · cases h

theorem moduleEntryOf_inTable {b c : Byte} {w : Word} {e : ModuleEntry} (h : moduleEntryOf b w c = some e) : e.inTable := by
  unfold moduleEntryOf at h
  split at h
  · rename_i range
    cases h
    exact range.2
  · cases h

/-- What is written to an element is in range and idle (R45, R52). -/
theorem controlOf_inRange {n : Nat} {ps : List Byte} {c : Control} (h : controlOf n ps = some c) : c.inRange := by
  rcases controlOf_cases h with ⟨-, -, rfl⟩ | ⟨-, -, rfl⟩ | ⟨_, _, _, _, _, _, p, -, -, key, rfl⟩ |
    ⟨_, _, _, _, _, p, -, -, encoder, rfl⟩ | ⟨_, _, _, _, _, _, _, _, p, -, -, level, rfl⟩
  · trivial
  · trivial
  · unfold keyParamsOf at key
    split at key
    · split at key
      · rename_i range
        cases key
        exact ⟨range.1, range.2, by decide⟩
      · cases key
    · cases key
  · unfold encoderParamsOf at encoder
    split at encoder
    · split at encoder
      · rename_i r _ range
        cases encoder
        obtain ⟨h1, h2, h3, h4, h5⟩ := range
        have := r.steps_pos
        refine ⟨h1, h2, h3, h4, h5, ?_, ?_, by decide, by decide, by decide⟩ <;> simp only [EncoderCtx.idle] <;> omega
      · cases encoder
    · cases encoder
  · unfold levelParamsOf at level
    split at level
    · rename_i range
      cases level
      obtain ⟨h1, h2, h3, h4⟩ := range
      exact ⟨byte_le _, h1, h4, h3, by decide, by simp [LevelCtx.idle], by simp [LevelCtx.idle]⟩
    · cases level

/-! ## Element entries -/

theorem events_writeAtRest {l : Fin 8} {c : Control} (index : i < 1024) (range : c.inRange) (free : s.holding = false) :
    Events s (writeAtRest i l c s) := by
  unfold writeAtRest
  dsimp only
  have written : ∀ u : State, Event u (u.setElement i ⟨l, c.toIdle⟩) := fun u =>
    .write i _ index (Control.toIdle_inRange range) c.toIdle_rested c.not_toIdle_owesEcho
  cases s.bound i with
  | none => exact .of (written s)
  | some m => exact (Events.touch (touch_offAtReset free m i s)).trans (.of (written _))

/-- The context of a key under new parameters is in range and at rest as the old one was (R55, R56). -/
theorem retuneKey_timer (p : KeyParams) (c : KeyCtx) : (retuneKey p c).closed = c.closed ∧
    ((retuneKey p c).timer = c.timer ∧ (retuneKey p c).repeatDue = c.repeatDue ∨
      (retuneKey p c).timer = none ∧ (retuneKey p c).repeatDue = false) ∧ (retuneKey p c).bounce = c.bounce ∧
    (retuneKey p c).sent = c.sent ∧ (retuneKey p c).echoPending = c.echoPending ∧ (retuneKey p c).settle ≤ c.settle := by
  have settle : ∀ k : KeyPhase, (match k with
      | .closing => min c.settle p.debounceDown
      | .opening => min c.settle p.debounceUp
      | .opened => c.settle
      | .closed => c.settle) ≤ c.settle := fun k => by cases k <;> simp
  unfold retuneKey
  dsimp only
  split
  · exact ⟨rfl, .inr ⟨rfl, rfl⟩, rfl, rfl, rfl, settle _⟩
  · exact ⟨rfl, .inl ⟨rfl, rfl⟩, rfl, rfl, rfl, settle _⟩

theorem touch_dropEcho (may : L.send) (i : Nat) (o : KeyParams) (c : KeyCtx) (s : State) : Touch L s (dropEcho i o c s) := by
  unfold dropEcho
  dsimp only
  have cleared : ∀ u : State, Touch L u (u.updKey i fun c => { c with echoBit := false, echoPending := false }) :=
    fun u => touch_updKey fun _ _ _ => .key (fun _ _ => id) id id (fun h1 h2 h3 => .inl ⟨h1, h2, h3⟩) fun h => by cases h
  split
  · split
    · exact (touch_requestOff may _ _ _ _).trans (cleared _)
    · exact cleared s
  · exact cleared s

theorem not_owesEcho_dropEcho (i : Nat) (o : KeyParams) (c : KeyCtx) (s : State) :
    ¬ ((dropEcho i o c s).element i).control.owesEcho := by
  have cleared : ∀ u : State, ¬ ((u.updKey i fun c => { c with echoBit := false, echoPending := false }).element
      i).control.owesEcho := fun u => by
    unfold State.updKey
    split
    · simp [Control.owesEcho]
    · rename_i h
      cases hc : (u.element i).control with
      | key p c => exact absurd hc (h p c)
      | _ => exact id
  unfold dropEcho
  exact cleared _

theorem touch_retuneEcho (may : L.send) (i : Nat) (o n : KeyParams) (c : KeyCtx) (s : State) :
    Touch L s (retuneEcho i o n c s) := by
  unfold retuneEcho
  split
  · exact (touch_dropEcho may i o c s).trans (touch_echoAct may i _)
  · split
    · exact touch_echoAct may i s
    · exact .refl

/-- An in-place write makes no echo owed (R56): a new lamp starts with none, and an old one keeps its own. -/
theorem owesEcho_retuneEcho {o n : KeyParams} {c d : KeyCtx} (key : (s.element i).control = .key o c)
    (pending : d.echoPending = c.echoPending)
    (owes : ((retuneEcho i o n c (s.setControl i (.key n d))).element i).control.owesEcho) :
    (s.element i).control.owesEcho ∨ (retuneEcho i o n c (s.setControl i (.key n d))).full := by
  have kept : n.echo = o.echo → ((s.setControl i (.key n d)).element i).control.owesEcho → (s.element i).control.owesEcho := by
    rw [State.element_setControl, key]
    rintro same ⟨h1, h2⟩
    exact ⟨same ▸ h1, pending ▸ h2⟩
  unfold retuneEcho at owes ⊢
  split at owes
  · rename_i change
    rw [if_pos change]
    exact .inr (((touch_echoAct (L := .quiet True) trivial i _).owesEcho i owes).resolve_left (not_owesEcho_dropEcho i o c _))
  · rename_i same
    rw [if_neg same]
    have same : n.echo = o.echo := not_not.mp same
    split at owes
    · rename_i mode
      rw [if_pos mode]
      exact ((touch_echoAct (L := .quiet True) trivial i _).owesEcho i owes).imp (kept same) id
    · rename_i mode
      rw [if_neg mode]
      exact .inl (kept same owes)

theorem events_writeKeyInPlace {o n : KeyParams} {c d : KeyCtx} (key : (s.element i).control = .key o c)
    (range : (Control.key n d).inRange) (free : s.holding = false) : Events s (writeKeyInPlace i o n c s) := by
  obtain ⟨closed, timer, bounce, sent, pending, settle⟩ := retuneKey_timer n c
  unfold writeKeyInPlace
  dsimp only
  have retuned : Event s (retuneEcho i o n c (s.setControl i
      (.key n { retuneKey n c with stale := retuneMode o.mode n.mode c.stale }))) := by
    refine .retune i _ (by rw [key]; rfl) ?_ ?_ (touch_retuneEcho free i o n c _) (owesEcho_retuneEcho key pending)
    · rw [key]
      rintro ⟨-, -, h3, h4, h5⟩
      exact ⟨range.1, range.2.1, settle.trans h3, bounce.le.trans h4, sent.le.trans h5⟩
    · rw [key]
      rintro ⟨h1, h2, h3⟩
      refine ⟨closed.trans h1, ?_⟩
      rcases timer with ⟨ht, hr⟩ | h
      · exact ⟨ht.trans h2, hr.trans h3⟩
      · exact h
  split
  · exact (Events.of retuned).trans (events_servicePass _)
  · exact .of retuned

theorem events_writeInPlace {c : Control} (range : c.inRange) (free : s.holding = false)
    (h : writeInPlace i c s = some t) : Events s t := by
  unfold writeInPlace at h
  split at h
  · rename_i key
    split at h
    · cases h; exact events_writeKeyInPlace key range free
    · cases h
  · rename_i p e encoder
    split at h
    · rename_i q d
      cases h
      obtain ⟨h1, h2, h3, h4, h5, -⟩ := range
      refine .of (.retune i (.encoder q (retuneEncoder p q e)) (by rw [encoder]; rfl) ?_ (fun _ => trivial) .refl fun owes => ?_)
      · rw [encoder]
        rintro ⟨-, -, -, -, -, lower, upper, carry⟩
        unfold retuneEncoder
        split
        · rename_i same
          exact ⟨h1, h2, h3, h4, h5, same ▸ lower, same ▸ upper, carry⟩
        · have := q.resolution.steps_pos
          refine ⟨h1, h2, h3, h4, h5, ?_, ?_, carry⟩ <;> dsimp only <;> omega
      · rw [State.element_setControl] at owes; exact owes.elim
    · cases h
  · rename_i p e level
    split at h
    · rename_i q d
      cases h
      obtain ⟨h1, h2, h3, h4, -⟩ := range
      have same : retuneLevel p q e = { e with zone := (retuneLevel p q e).zone } := by
        unfold retuneLevel; split <;> rfl
      rw [same]
      refine .of (.retune i _ (by rw [level]; rfl) ?_ ?_ .refl fun owes => ?_)
      · rw [level]
        rintro ⟨-, -, -, -, context⟩
        exact ⟨h1, h2, h3, h4, context⟩
      · rw [level]; exact id
      · rw [State.element_setControl] at owes; exact owes.elim
    · cases h
  · split at h
    · cases h; exact .refl
    · cases h
  · split at h
    · cases h; exact .refl
    · cases h

theorem events_writeElementEntry {l : Fin 8} {c : Control} (index : i < 1024) (range : c.inRange) (free : s.holding = false)
    (h : writeElementEntry i l c s = some t) : Events s t := by
  unfold writeElementEntry at h
  split at h
  · split at h
    · split at h
      · exact events_writeInPlace range free h
      · cases h
    · cases h; exact events_writeAtRest index range free
  · cases h; exact events_writeAtRest index range free

/-! ## Requests -/

theorem events_answer (r : Request) (a : Answer) (h : Events s t) : Events s (answer r a t) :=
  h.trans (.of (.head _ fun _ _ e => by cases e))

theorem events_refuse (r : Request) (x : Reason) (s : State) : Events s (refuse r x s) := events_answer r _ .refl

theorem State.apart_of_not_overlaps {e : ModuleEntry} (h : ¬ s.overlaps m e = true) : s.apart m e := by
  intro k i hk he
  by_contra other
  apply h
  simp only [ModuleEntry.binds, Bool.and_eq_true, decide_eq_true_eq] at hk he
  simp only [State.overlaps, Bool.and_eq_true, List.any_eq_true]
  refine ⟨he.1, k, List.mem_finRange k, ⟨by simpa using other, hk.1⟩, ?_⟩
  simp only [ModuleEntry.meets, Bool.and_eq_true, decide_eq_true_eq]
  omega

theorem events_carryWriteModule (r : Request) {e : ModuleEntry} (ready : s.head = .ready) (table : e.inTable)
    (apart : s.apart m e) (free : s.holding = false) : Events s (carryWriteModule r m e s) := by
  unfold carryWriteModule
  split
  · exact events_answer r _ .refl
  · split
    · rename_i active
      refine (events_enterDraining free active).trans (.of (.head _ fun k x same => ?_))
      cases same
      obtain ⟨draining, entry⟩ := enterDraining_module m s
      exact ⟨draining, table, fun k i hk => apart k i (entry k ▸ hk)⟩
    all_goals
      rename_i state
      exact events_installAtOnce r (by rw [state]; decide) ready table apart free

theorem events_writeModule (r : Request) (ready : s.head = .ready) (free : s.holding = false) :
    Events s (writeModule r s) := by
  unfold writeModule
  split
  · split
    · rename_i hm he
      split
      · exact events_refuse r _ s
      · exact events_carryWriteModule r ready (moduleEntryOf_inTable he) (State.apart_of_not_overlaps ‹_›) free
    · exact events_refuse r _ s
  · exact events_refuse r _ s

theorem events_writeElement (r : Request) (free : s.holding = false) : Events s (writeElement r s) := by
  unfold writeElement
  split
  · unfold writeElementChecked
    split
    · exact events_refuse r _ s
    · split
      · exact events_refuse r _ s
      · split
        · rename_i hc
          split
          · rename_i index
            split
            · exact events_answer r _ (events_writeElementEntry index (controlOf_inRange hc) free ‹_›)
            · exact events_refuse r _ s
          · exact events_refuse r _ s
        · exact events_refuse r _ s
  · split <;> exact events_refuse r _ s
  · exact events_refuse r _ s

theorem events_writeLaneEntry (l : Fin 8) {e : LaneEntry} (range : e.inRange) : Events s (writeLaneEntry l e s) := by
  unfold writeLaneEntry
  dsimp only
  split
  · exact (Events.of (.entry l e range)).trans (events_servicePass _)
  · exact .of (.entry l e range)

theorem events_clearCounters (s : State) : Events s (clearCounters s) := by
  have counted : Touch s.license s { s with counters := .zero } := .of (.counts .zero s.systemLost
    (fun _ => ⟨Nat.zero_le _, Nat.zero_le _, Nat.zero_le _, Nat.zero_le _, Nat.zero_le _, Nat.zero_le _, Nat.zero_le _,
      Nat.zero_le _⟩) id)
  have dropped : Touch s.license { s with counters := .zero }
      { s with counters := .zero, capture := { s.capture with dropped := 0 } } := .of (.capture _ id fun _ => Nat.zero_le _)
  exact (Events.touch (counted.trans dropped)).trans (.of .clearOverflows)

theorem events_captureRead (r : Request) (s : State) : Events s (captureRead r s) := by
  unfold captureRead
  split
  · split
    · refine events_answer r _ (.touch (.of (.capture _ (fun h => ?_) id)))
      simp only [CaptureRing.heldCount, List.length_drop] at h ⊢
      omega
    · exact events_refuse r _ s
  · exact events_refuse r _ s

/-- The execution of a request is a run of events (R146). -/
theorem events_carryOut (r : Request) (ready : s.head = .ready) (free : s.holding = false) : Events s (carryOut r s) := by
  unfold carryOut
  split
  · unfold readStatus; split
    exacts [events_answer r _ .refl, events_refuse r _ s]
  · unfold readSettings; split
    exacts [events_answer r _ .refl, events_refuse r _ s]
  · unfold writeSettings; split
    · split
      · exact events_answer r _ (.of (.settings _ (settingsOf_inRange ‹_›)))
      · exact events_refuse r _ s
    · exact events_refuse r _ s
  · unfold readModule; split
    · split
      exacts [events_answer r _ .refl, events_refuse r _ s]
    · exact events_refuse r _ s
  · exact events_writeModule r ready free
  · unfold readElement; split
    · split
      exacts [events_answer r _ .refl, events_refuse r _ s]
    · exact events_refuse r _ s
  · exact events_writeElement r free
  · unfold readLane; split
    · split
      exacts [events_answer r _ .refl, events_refuse r _ s]
    · exact events_refuse r _ s
  · unfold writeLane; split
    · split
      · exact events_answer r _ (events_writeLaneEntry _ (laneEntryOf_inRange ‹_›))
      · exact events_refuse r _ s
    · exact events_refuse r _ s
  · unfold readProfile; split
    · split
      exacts [events_answer r _ .refl, events_refuse r _ s]
    · exact events_refuse r _ s
  · unfold writeProfile; split
    · split
      · exact events_answer r _ (.of (.profile _ _ (profileOf_inRange ‹_›)))
      · exact events_refuse r _ s
    · exact events_refuse r _ s
  · unfold readCounters; split
    · refine events_answer r _ ?_
      split
      exacts [events_clearCounters s, .refl]
    · exact events_refuse r _ s
  · unfold restartRequest; split
    · exact events_restart free _
    · split <;> exact events_refuse r _ s
  · unfold controlCapture; split
    · split
      · exact events_answer r _ (.touch (touch_captureControl _ _ _ s))
      · exact events_refuse r _ s
    · exact events_refuse r _ s
  · exact events_captureRead r s
  · exact events_refuse r _ s

end Sys2Proof.Machine

/-! # Every step is a run of events: due steps, frames, timers, commands -/

namespace Sys2Proof.Machine

variable {L : License} {s t u : State} {i : Nat} {m : ModuleIx}

/-! ## Due steps -/

theorem events_slotStep (h : slotStep s = some t) : Events s t := by
  obtain ⟨r, -, room, rfl⟩ := slotStep_cases h
  have queued : Event s { s with replies := s.replies ++ [r], requests := s.requests.tail } := by
    refine .queues s.consoleTx s.burst s.passQueue s.stack s.requests.tail (s.replies ++ [r]) id id (fun h => ?_)
      (fun _ => ?_) id (.inl rfl)
    · rw [List.length_tail]; omega
    · rw [List.length_append, List.length_singleton]; exact room
  exact (Events.of queued).trans (.of (.head .ready fun _ _ e => by cases e))

theorem events_selectStep (h : selectStep s = some t) : Events s t := by
  obtain ⟨idle, -⟩ := selectStep_consoleTx h
  obtain ⟨⟨-, -⟩, c, chosen, rfl⟩ := selectStep_eq_some_iff.mp h
  obtain ⟨rfl, -⟩ | ⟨l, rfl, offered⟩ | ⟨rfl, -⟩ := State.choice_cases chosen
  · exact events_takeReply s
  · refine events_takeNotice idle fun inService => ?_
    have eligible := State.eligible_of_offer offered
    rw [State.eligible_eq_false_of_mem_stack inService] at eligible
    cases eligible
  · exact events_takePass s

theorem events_dueStep (h : dueStep s = some t) : Events s t := by
  obtain ⟨free, h | h | h | h | h⟩ := dueStep_cases h
  · obtain ⟨m, e, r, rest, head, -, -, rfl⟩ := flushStep_cases h
    exact events_completeFlush r head free
  · exact events_slotStep h
  · obtain ⟨r, rest, ready, -, rfl⟩ := executeStep_cases h
    exact events_carryOut r ready free
  · exact events_selectStep h
  · obtain ⟨-, waits, rfl⟩ := surfaceStep_cases h
    exact .of (.start waits)

theorem events_settle (s : State) : Events s (settle s) :=
  settle_induct (P := Events s) (fun _ _ due run => run.trans (events_dueStep due)) .refl

/-- What is run before the due steps is followed by them. -/
theorem Events.settled (h : Events s t) : Events s (settle t) := h.trans (events_settle t)

/-! ## Frames -/

theorem events_countFrameError (p : Port) (s : State) : Events s (s.countFrameError p) := .touch (touch_countFrameError s p)

theorem events_assemble (free : s.holding = false) (on : (s.module m).entry.enabled = true) (f : Frame) :
    Events s (assemble m f s) := by
  unfold assemble
  split
  · split
    exacts [.touch (touch_takeReport m _ s), events_countFrameError _ s]
  · split
    exacts [events_takeSweepEnd free on _ _ _, events_countFrameError _ s]

theorem events_routeSurface (free : s.holding = false) (f : Frame) : Events s (routeSurface f s) := by
  unfold routeSurface
  split
  · split
    · split
      exacts [events_assemble free ‹_› f, events_passFrame f s]
    · exact .touch (touch_countMisaddressed s)
  · exact events_passFrame f s

theorem events_requestArrives (free : s.holding = false) (tag code : Byte) (args : List Byte) :
    Events s (requestArrives tag code args s) := by
  unfold requestArrives
  split
  · rename_i room
    split
    · exact events_restart free _
    · refine .of (.queues s.consoleTx s.burst s.passQueue s.stack _ s.replies id id (fun _ => ?_) id id (.inl rfl))
      rw [List.length_append, List.length_singleton]
      exact room
  · exact .touch (touch_countRequestDrop s)

theorem events_routeOwn (free : s.holding = false) (f : Frame) : Events s (routeOwn f s) := by
  unfold routeOwn
  split
  · split
    exacts [events_requestArrives free _ _ _, events_countFrameError _ s]
  · split
    · split
      · split
        exacts [events_serviceDone _ s, events_countFrameError _ s]
      · exact events_countFrameError _ s
    · exact .touch (touch_countMisaddressed s)

theorem events_routeChain (free : s.holding = false) (f : Frame) : Events s (routeChain f s) := by
  unfold routeChain
  split
  · split
    · split
      exacts [.touch (touch_mergeIndicator free f _ _ s), events_countFrameError _ s]
    · exact events_countFrameError _ s
  · split
    · split
      · split
        exacts [.touch (touch_mergePace free f _ s), events_countFrameError _ s]
      · exact events_countFrameError _ s
    · exact .touch (touch_mergeFrame free f s)

theorem events_route (free : s.holding = false) (p : Port) (f : Frame) : Events s (route p f s) := by
  unfold route
  split
  · split
    · exact events_routeSurface free f
    · split
      exacts [events_routeOwn free f, events_routeChain free f]
  · exact events_countFrameError p s

theorem events_endFrame (p : Port) (x : Framer) (s : State) : Events s ((s.countFrameError p).setFramer p x) :=
  (events_countFrameError p s).trans (events_setFramer p x _)

theorem events_frameArrives (p : Port) (f : Frame) (s : State) : Events s (frameArrives p f s) := by
  unfold frameArrives
  split
  · exact .refl
  · rename_i free
    have ended : Events s (endPartial p s) := by
      unfold endPartial
      split
      exacts [.refl, events_endFrame p _ s]
    refine (ended.trans (events_route ?_ p f)).settled
    rw [endPartial_holding]
    simpa using free

theorem events_malformed (p : Port) (s : State) : Events s (malformed p s) := by
  unfold malformed
  split
  exacts [.refl, events_endFrame p _ s]

theorem events_frameComplete (free : s.holding = false) (p : Port) (k a l : Byte) (got : List Byte) :
    Events s (frameComplete p k a l got s) := by
  unfold frameComplete
  split
  exacts [(events_route free p _).settled, events_countFrameError p s]

theorem events_character (p : Port) (e : LineEvent) (s : State) : Events s (character p e s) := by
  unfold character
  split
  · exact .refl
  · rename_i free
    have free : s.holding = false := by simpa using free
    cases e with
    | start b =>
      unfold startCharacter; dsimp only; split
      exacts [events_setFramer p _ s, events_endFrame p _ s]
    | continuation b =>
      unfold continuation; dsimp only; split
      · exact .refl
      · exact events_setFramer p _ s
      · split
        exacts [events_setFramer p _ s, events_endFrame p _ s]
      · split
        · exact events_setFramer p _ s
        · refine (events_setFramer p .hunting s).trans (events_frameComplete ?_ p _ _ _ _)
          simpa [State.holding] using free
    | error =>
      unfold characterError; dsimp only; split
      exacts [.refl, events_endFrame p _ s]

/-! ## Timers -/

theorem events_expireWatchdog (m : ModuleIx) (s : State) : Events s (expireWatchdog m s) := by
  unfold expireWatchdog
  split
  · rename_i due
    exact (events_watchdogLoss due.2).settled
  · exact .refl

theorem mayWake_of_repeatTimer (h : (s.element i).control.repeatTimer.isDue = true) : s.mayWake i := by
  refine .inl fun rest => ?_
  cases hc : (s.element i).control with
  | key p c => rw [hc] at h rest; rw [Control.repeatTimer, rest.2.1] at h; cases h
  | _ => rw [hc] at h; cases h

theorem mayWake_of_paceTimer (h : (s.element i).control.paceTimer.isDue = true) : s.mayWake i := by
  refine .inl fun rest => ?_
  cases hc : (s.element i).control with
  | level p c => rw [hc] at h rest; rw [Control.paceTimer, show c.timer = none from rest] at h; cases h
  | _ => rw [hc] at h; cases h

theorem events_expireRepeat (i : Nat) (s : State) : Events s (expireRepeat i s) := by
  unfold expireRepeat
  split
  · exact (Events.touch (touch_repeatExpiry (L := s.license) (mayWake_of_repeatTimer ‹_›) s)).settled
  · exact .refl

theorem events_expirePace (i : Nat) (s : State) : Events s (expirePace i s) := by
  unfold expirePace
  split
  · exact (Events.touch (touch_paceExpiry (L := s.license) (mayWake_of_paceTimer ‹_›) s fun range => range.elements i)).settled
  · exact .refl

theorem events_expireService (l : Fin 8) (s : State) : Events s (expireService l s) := by
  unfold expireService
  split
  exacts [(events_serviceOverdue l s).settled, .refl]

theorem events_takeDue (s : State) : Events s (takeDue s) := by
  unfold takeDue
  exact (events_foldl (fun s m => events_expireWatchdog m s) _ s).trans
    ((events_foldl (fun s i => events_expireRepeat i s) _ _).trans
      ((events_foldl (fun s i => events_expirePace i s) _ _).trans
        (events_foldl (fun s l => events_expireService l s) _ _)))

theorem events_countTimers (s : State) : Events s (countTimers s) := .of .ticks

theorem events_lineReturns (s : State) : Events s (lineReturns s) := by
  cases hd : s.detector with
  | broken => rw [lineReturns_of_broken hd]; exact (events_breakEnds hd).settled
  | clear => rw [lineReturns_of_clear hd]; exact events_consoleRx _ s
  | spacingSeen =>
    rw [lineReturns_of_spacingSeen hd]
    exact (events_detector (by decide) (.inl rfl)).trans (events_consoleRx .marking _)

theorem events_detectSpacing (reset : s.powerReset = false) : Events s (detectSpacing s) := by
  cases hd : s.detector with
  | clear =>
    rw [detectSpacing_of_clear hd]
    exact (events_detector (d := .spacingSeen) (by decide) (.inr reset)).trans (events_consoleRx .spacing _)
  | spacingSeen => rw [detectSpacing_of_spacingSeen hd]; exact events_breakDetected reset
  | broken => rw [detectSpacing_of_broken hd]; exact events_consoleRx _ s

/-! ## The tick event -/

/-- A due step is taken while nothing holds the block, and leaves it so. -/
theorem dueStep_holding (h : dueStep s = some t) : t.holding = false := by
  obtain ⟨free, h | h | h | h | h⟩ := dueStep_cases h
  · obtain ⟨m, e, r, rest, -, -, -, rfl⟩ := flushStep_cases h
    exact (State.holding_of_desk (completeFlush_desk s m e)).trans free
  · obtain ⟨r, -, -, rfl⟩ := slotStep_cases h
    exact free
  · obtain ⟨r, rest, -, -, rfl⟩ := executeStep_cases h
    obtain ⟨a, u, hu, wires⟩ | ⟨m, e, u, hu, desk, -⟩ | ⟨f, -, hu⟩ := carryOut_cases r s
    · rw [hu]; exact (State.holding_of_wires wires).trans free
    · rw [hu]; exact (State.holding_of_desk desk).trans free
    · rw [hu, State.holding, show (restart f s).powerReset = s.powerReset from congrArg Wires.powerReset (restart_wires s f),
        show (restart f s).detector = .clear from congrArg Wires.detector (restart_wires s f)]
      simp only [State.holding, Bool.or_eq_false_iff] at free
      simp [free.1]
  · obtain ⟨-, c, -, rfl⟩ := selectStep_eq_some_iff.mp h
    exact (takeChoice_frame c s).2.2.2.2.trans free
  · obtain ⟨-, -, rfl⟩ := surfaceStep_cases h
    exact free

theorem State.powerReset_of_not_holding (h : s.holding = false) : s.powerReset = false := by
  simp only [State.holding, Bool.or_eq_false_iff] at h
  exact h.1

theorem settle_powerReset (reset : s.powerReset = false) : (settle s).powerReset = false := by
  cases held : s.holding with
  | true => rw [settle_holding held]; exact reset
  | false => exact State.powerReset_of_not_holding (settle_induct (P := fun u => u.holding = false)
      (fun _ _ due _ => dueStep_holding due) held)

theorem serviceOverdue_powerReset (l : Fin 8) (s : State) : (serviceOverdue l s).powerReset = s.powerReset := by
  unfold serviceOverdue
  rw [State.powerReset_of_desk (notify_desk _ _)]
  rfl

theorem takeDue_powerReset (reset : s.powerReset = false) : (takeDue s).powerReset = false := by
  have watchdog : ∀ (u : State) (m : ModuleIx), u.powerReset = false → (expireWatchdog m u).powerReset = false := by
    intro u m hu
    unfold expireWatchdog
    split
    exacts [settle_powerReset ((State.powerReset_of_desk (watchdogLoss_desk _ _)).trans hu), hu]
  have repeats : ∀ (u : State) (i : Nat), u.powerReset = false → (expireRepeat i u).powerReset = false := by
    intro u i hu
    unfold expireRepeat
    split
    · exact settle_powerReset ((State.powerReset_of_desk (repeatExpiry_desk u i)).trans hu)
    · exact hu
  have paces : ∀ (u : State) (i : Nat), u.powerReset = false → (expirePace i u).powerReset = false := by
    intro u i hu
    unfold expirePace
    split
    · exact settle_powerReset ((State.powerReset_of_desk (paceExpiry_desk u i)).trans hu)
    · exact hu
  have services : ∀ (u : State) (l : Fin 8), u.powerReset = false → (expireService l u).powerReset = false := by
    intro u l hu
    unfold expireService
    split
    exacts [settle_powerReset ((serviceOverdue_powerReset l u).trans hu), hu]
  unfold takeDue
  exact foldl_keeps (P := fun u => u.powerReset = false) services _ <|
    foldl_keeps (P := fun u => u.powerReset = false) paces _ <|
      foldl_keeps (P := fun u => u.powerReset = false) repeats _ <|
        foldl_keeps (P := fun u => u.powerReset = false) watchdog _ reset

theorem events_tickEvent (x : Line) (s : State) : Events s (tickEvent x s) := by
  cases x with
  | marking =>
    unfold tickEvent; dsimp only; split
    · exact events_lineReturns s
    · exact ((events_lineReturns s).trans (events_takeDue _)).trans (events_countTimers _)
  | spacing =>
    unfold tickEvent; dsimp only; split
    · exact events_consoleRx _ s
    · rename_i reset
      have reset := takeDue_powerReset (Bool.not_eq_true _ ▸ reset)
      exact ((events_takeDue s).trans (events_countTimers _)).trans (events_detectSpacing reset)

/-! ## Commands -/

theorem events_internal {f : State → Option State} (due : ∀ s t, s.holding = false → f s = some t → Events s t) (s : State) :
    Events s (internal f s) := by
  unfold internal
  split
  · exact .refl
  · rename_i free
    cases h : f s with
    | none => exact events_settle s
    | some t => exact (due s t (by simpa using free) h).settled

theorem events_surfaceStep (h : surfaceStep s = some t) : Events s t := by
  obtain ⟨-, waits, rfl⟩ := surfaceStep_cases h
  exact .of (.start waits)

theorem events_flushStep (free : s.holding = false) (h : flushStep s = some t) : Events s t := by
  obtain ⟨m, e, r, rest, head, -, -, rfl⟩ := flushStep_cases h
  exact events_completeFlush r head free

theorem owedFrame_length (h : owedFrame s = some t) : t.outbound.length = s.outbound.length + 1 := by
  unfold owedFrame at h
  split at h
  · cases h; simp [State.pushOut]
  · split at h
    · cases h; simp [State.pushOut]
    · split at h
      · cases h
        have kept : ∀ (u : State) (i : Nat) (f : KeyCtx → KeyCtx), (u.updKey i f).outbound = u.outbound := fun u i f => by
          unfold State.updKey; split <;> rfl
        rw [kept]
        exact List.length_append
      · cases h

/-- The owed pass ends with nothing owed or no entry free (R136). -/
theorem owedFrames_ends (n : Nat) {s : State} (enough : s.outboundFree ≤ n) :
    (owedFrames n s).outboundRoom = true → owedFrame (owedFrames n s) = none := by
  induction n generalizing s with
  | zero =>
    intro room
    unfold owedFrames State.outboundRoom at room
    have := of_decide_eq_true room
    omega
  | succ n ih =>
    unfold owedFrames
    split
    · split
      · rename_i t next
        refine ih ?_
        have := owedFrame_length next
        unfold State.outboundFree Config.outboundEntries at enough ⊢
        omega
      · exact fun _ => ‹_›
    · exact fun room => absurd room ‹_›

theorem events_surfaceSent (busy : s.surfaceSending = true) : Events s (surfaceSent s) := by
  exact .of (.sent busy (touch_owedFrames trivial _ _) (owedFrames_ends _ le_rfl))

theorem events_powerOnBegins (s : State) : Events s (powerOnBegins s) := by
  have cold : Events s (beginCold s) := .of .cold
  have empty : (beginCold s).outbound = [] := rfl
  have clear : (beginCold s).detector = .clear := rfl
  unfold powerOnBegins
  generalize beginCold s = w at cold empty clear ⊢
  have held := events_held (s := w) empty (d := .clear) (b := true) fun _ => rfl
  rw [← clear] at held
  exact cold.trans held

theorem events_powerOnEnds (s : State) : Events s (powerOnEnds s) := by
  have released : Event s { s with powerReset := false } :=
    .lines s.surfaceFramer s.consoleFramer s.pauseIn s.consoleRx s.detector false s.resetCause
      (fun held => .inl (by simp only [Bool.false_or] at held; simp [State.holding, held])) fun _ h => by cases h
  unfold powerOnEnds completeCold
  exact (Events.of released).trans (events_announce _ _)

/-- Every command is a run of events. -/
theorem events_afterCommand (c : Instr) (s : State) : Events s (s.afterCommand c) := by
  cases c with
  | tick x => exact events_tickEvent x s
  | malformedFrame p => exact events_malformed p s
  | awaitingSlotEnd => exact events_internal (fun _ _ _ => events_slotStep) s
  | flushComplete => exact events_internal (fun _ _ => events_flushStep) s
  | consoleSelection => exact events_internal (fun _ _ _ => events_selectStep) s
  | surfaceFrameStart => exact events_internal (fun _ _ _ => events_surfaceStep) s
  | consoleFrameSent =>
    show Events s (if _ then _ else _)
    split
    exacts [.refl, (events_frameSent s).settled]
  | surfaceFrameSent =>
    show Events s (if _ then _ else _)
    split
    exacts [(events_surfaceSent ‹_›).settled, .refl]
  | pauseInAssert => exact events_pauseIn true s
  | pauseInDeassert => exact (events_pauseIn false s).settled
  | linkBreak =>
    show Events s (if _ then _ else _)
    split
    · exact .refl
    · rename_i free
      exact events_breakDetected (State.powerReset_of_not_holding (by simpa using free))
  | linkBreakEnd => exact events_lineReturns s
  | powerOnReset => exact events_powerOnBegins s
  | powerOnResetRelease =>
    show Events s (if _ then _ else _)
    split
    exacts [(events_powerOnEnds s).settled, .refl]
  | watchdogExpiry a =>
    unfold State.afterCommand
    simp only [exec, execWatchdogExpiry]
    cases moduleOf a with
    | none => exact .refl
    | some m => exact events_expireWatchdog m s
  | repeatTimerExpiry i => exact events_expireRepeat i s
  | paceTimerExpiry i => exact events_expirePace i s
  | serviceTimerExpiry l => exact events_expireService l s
  | returnToMarking => exact events_lineReturns s
  | characterEvent p e => exact events_character p e s
  | _ => exact events_frameArrives _ _ s

/-- No event touches the commands that wait. -/
theorem Event.pending (h : Event s t) : t.pending = s.pending := by
  cases h with
  | touch run => exact State.pending_of_desk run.desk
  | warm => simp only [beginWarm, beginCold]
  | unbreak _ _ run => exact (State.pending_of_desk run.desk).trans rfl
  | retire _ _ _ _ _ _ run _ => exact State.pending_of_desk run.desk
  | install _ _ _ _ _ run _ _ _ _ after => exact (State.pending_of_desk after.desk).trans (State.pending_of_desk run.desk)
  | retune _ _ _ _ _ run _ => exact State.pending_of_desk run.desk
  | sent _ run _ => exact (State.pending_of_desk run.desk).trans rfl
  | _ => rfl

theorem Events.pending (h : Events s t) : t.pending = s.pending :=
  h.keeps (P := fun u => u.pending = s.pending) (fun event hs => event.pending.trans hs) rfl

/-- What every event keeps and the queue of commands does not decide, every step keeps. -/
theorem step_keeps {P : State → Prop} (h : ∀ {s t}, Event s t → P s → P t)
    (queue : ∀ s q, P s → P { s with pending := q }) (taken : step s = .next t) (hs : P s) : P t := by
  rcases step_cases taken with ⟨-, rfl⟩ | ⟨c, rest, -, rfl⟩
  · exact hs
  · exact (events_afterCommand c _).keeps h (queue s rest hs)

end Sys2Proof.Machine

/-! # The element table, the module map and the untaken notices after every step (O54, O56, O60) -/

namespace Sys2Proof.Machine

variable {L : License} {s t u : State} {i : Nat} {m : ModuleIx}

/-! ## The element table -/

/-- A tick leaves each control as it was, but for its timer (R1). -/
theorem touch_countControls (s : State) : Touch L s (s.mapControls fun _ c => c.count) := by
  refine touch_mapControls fun i c => ?_
  cases c with
  | key p c => exact .key (fun _ _ => id) id id (fun h1 h2 h3 => .inl ⟨h1, by rw [h2]; rfl, h3⟩) .inl
  | level p c => exact .level (fun _ => id) (fun _ _ => id) (fun _ => id) fun h => .inl (by rw [h]; rfl)
  | _ => exact .refl _ _ _ _

theorem touch_idleControls (s : State) : Touch L s (s.mapControls fun _ c => c.toIdle) :=
  touch_mapControls fun _ _ => .toIdle _ _ _ _

theorem Event.tableOk (h : Event s t) (hs : s.tableOk) : t.tableOk := by
  cases h with
  | touch run => exact run.tableOk hs
  | cold => exact ⟨rfl, List.forall_mem_nil fun p : Nat × Element => p.1 < 1024⟩
  | warm => exact (touch_idleControls (L := .quiet True) s).tableOk hs
  | unbreak _ _ run => exact run.tableOk hs
  | retire _ _ _ _ _ _ run _ => exact run.tableOk hs
  | install _ _ _ _ _ run _ _ _ _ after => exact after.tableOk (run.tableOk hs)
  | write _ _ index _ _ _ => exact State.tableOk_setElement hs (.inr (.inr index))
  | retune _ _ cls _ _ run _ => exact run.tableOk (State.tableOk_setControl hs cls)
  | sent _ run _ => exact run.tableOk hs
  | ticks => exact (touch_countControls (L := .quiet True) s).tableOk hs
  | _ => exact hs

/-- Settles O54: a control is written only at an index that is listed already or below 1024, and a class changes only by
such a write. -/
theorem stepKeepsElementTableCanonical : Obligations.StepKeepsElementTableCanonical :=
  fun _ _ hs taken => step_keeps Event.tableOk (fun _ _ h => h) taken hs

/-! ## The module map -/

theorem State.Mapped.of_entry (h : s.Mapped) (entry : ∀ m, (t.module m).entry = (s.module m).entry)
    (head : ∀ m x, t.head = .flushing m x → s.head = .flushing m x) : t.Mapped := by
  refine ⟨fun m => ?_, fun m k i => ?_, fun m x flushing => ?_⟩
  · rw [entry]; exact h.range m
  · rw [entry, entry]; exact h.disjoint m k i
  · simp only [entry]; exact h.flush m x (head m x flushing)

theorem Touch.mapped (h : Touch L s t) (hs : s.Mapped) : t.Mapped :=
  hs.of_entry h.entry fun _ _ flushing => (State.head_of_desk h.desk) ▸ flushing

/-- A module replaced by one of the same entry. -/
theorem State.Mapped.setModule (h : s.Mapped) {x : Module} (entry : x.entry = (s.module m).entry) :
    (s.setModule m x).Mapped := by
  refine h.of_entry (fun k => ?_) fun _ _ => id
  by_cases hk : k = m
  · subst hk; rwa [State.module_setModule]
  · rw [State.module_setModule_of_ne _ hk]

theorem State.entry_updModule_entry (s : State) (m k : ModuleIx) (e : ModuleEntry) :
    ((s.updModule m fun x => { x with entry := e }).module k).entry = if k = m then e else (s.module k).entry := by
  unfold State.updModule
  split
  · rename_i hk; subst hk; rw [State.module_setModule]
  · rename_i hk; rw [State.module_setModule_of_ne _ hk]

/-- An entry that meets no other enabled one takes its place in the map (R19). -/
theorem State.Mapped.install (h : s.Mapped) {e : ModuleEntry}
    (fits : e.inTable ∧ s.apart m e) (head : ∀ k x, s.head = .flushing k x → k = m ∧ x = e) :
    (s.updModule m fun x => { x with entry := e }).Mapped := by
  obtain ⟨table, apart⟩ := fits
  refine ⟨fun k => ?_, fun k j i => ?_, fun k x flushing => ?_⟩
  · rw [State.entry_updModule_entry]
    split
    exacts [table, h.range k]
  · rw [State.entry_updModule_entry, State.entry_updModule_entry]
    split <;> split <;> rename_i hk hj
    · intros; rw [hk, hj]
    · intro new old; exact absurd (apart j i old new) hj
    · intro old new; exact absurd (apart k i old new) hk
    · exact h.disjoint k j i
  · obtain ⟨rfl, rfl⟩ := head k x flushing
    obtain ⟨h1, h2, h3, -⟩ := h.flush k x flushing
    refine ⟨h1, h2, h3, fun j i => ?_⟩
    rw [State.entry_updModule_entry]
    split
    · intros; assumption
    · exact apart j i

/-- The entry that an install brings fits the map, whichever command asked for it. -/
theorem State.Mapped.fits {e : ModuleEntry} (h : s.Mapped)
    (head : s.head = .ready ∧ (s.module m).state ≠ .active ∧ e.inTable ∧ s.apart m e ∧ (s.module m).sweep.slots = [] ∨
      s.head = .flushing m e) :
    (e.inTable ∧ s.apart m e) ∧ ∀ k x, s.head = .flushing k x → k = m ∧ x = e := by
  rcases head with ⟨ready, -, table, apart, -⟩ | flushing
  · exact ⟨⟨table, apart⟩, fun k x other => by rw [ready] at other; cases other⟩
  · obtain ⟨h1, h2, h3, apart⟩ := h.flush m e flushing
    exact ⟨⟨⟨h1, h2, h3⟩, apart⟩, fun k x same => by rw [flushing] at same; cases same; exact ⟨rfl, rfl⟩⟩

theorem beginCold_module (s : State) (m : ModuleIx) : (beginCold s).module m = .idle .cold := by
  simp [beginCold, State.blank, State.module]

theorem beginWarm_module (s : State) (m : ModuleIx) : (beginWarm s).module m = .idle (s.module m).entry := by
  simp [beginWarm, State.module]

theorem Event.mapped (h : Event s t) (hs : s.Mapped) : t.Mapped := by
  cases h with
  | touch run => exact run.mapped hs
  | cold =>
    refine ⟨fun k => ?_, fun k j i => ?_, fun k x flushing => ?_⟩
    · rw [beginCold_module]; decide
    · rw [beginCold_module]; simp [Module.idle, ModuleEntry.cold, ModuleEntry.binds]
    · cases flushing
  | warm =>
    exact hs.of_entry (fun k => by rw [beginWarm_module]; rfl) fun k x flushing => by
      rw [beginWarm_head] at flushing; cases flushing
  | unbreak _ _ run => exact run.mapped (hs.of_entry (fun _ => rfl) fun _ _ => id)
  | head c flush =>
    exact ⟨hs.range, hs.disjoint, fun k x flushing => by
      obtain ⟨-, ⟨h1, h2, h3⟩, apart⟩ := flush k x flushing
      exact ⟨h1, h2, h3, apart⟩⟩
  | become _ _ _ _ follows => exact hs.setModule follows.entry
  | retire _ _ _ _ _ follows run _ => exact run.mapped (hs.setModule follows.entry)
  | install m e y r head run same cleared now follows after =>
    obtain ⟨fits, only⟩ := hs.fits head
    refine (after.mapped ((run.mapped (hs.install fits only)).setModule follows.entry)).of_entry (fun _ => rfl) ?_
    intro k x flushing
    cases flushing
  | retune _ _ _ _ _ run _ => exact run.mapped (hs.of_entry (fun _ => rfl) fun _ _ => id)
  | sent _ run _ => exact run.mapped (hs.of_entry (fun _ => rfl) fun _ _ => id)
  | ticks => exact hs.of_entry (fun k => by rw [module_countTimers]) fun _ _ => id
  | _ => exact hs.of_entry (fun _ => rfl) fun _ _ => id

/-- Settles O56: an entry is installed only after the check of Write Module that it meets no other, which a flush keeps to
its end. -/
theorem stepKeepsModuleRangesApart : Obligations.StepKeepsModuleRangesApart :=
  fun _ _ hs taken => step_keeps Event.mapped (fun _ _ h => h.of_entry (fun _ => rfl) fun _ _ => id) taken hs

/-! ## The untaken notices -/

theorem State.waitingFor_mono (fifo : ∀ l, ((t.lane l).fifo).Sublist (s.lane l).fifo) (k : NoticeKind) (i a n : Nat) :
    t.waitingFor k i a n ≤ s.waitingFor k i a n := by
  rw [State.waitingFor_eq, State.waitingFor_eq]
  exact List.sum_le_sum fun l _ => (fifo l).countP_le

/-- Where no notice is added, no more of them wait. -/
theorem State.OneWaiting.of_sublist (h : s.OneWaiting) (fifo : ∀ l, ((t.lane l).fifo).Sublist (s.lane l).fifo) :
    t.OneWaiting := fun i a n =>
  ⟨(State.waitingFor_mono fifo _ i a n).trans (h i a n).1, (State.waitingFor_mono fifo _ i a n).trans (h i a n).2⟩

theorem State.fifo_setLane {x : Lane} {l : Fin 8} (h : x.fifo.Sublist (s.lane l).fifo) (k : Fin 8) :
    (((s.setLane l x).lane k).fifo).Sublist (s.lane k).fifo := by
  rcases s.lane_setLane_cases k l x with ⟨rfl, e⟩ | ⟨-, e⟩
  · rw [e]; exact h
  · rw [e]

theorem beginCold_fifo (s : State) (l : Fin 8) : ((beginCold s).lane l).fifo = [] := by
  simp [beginCold, State.blank, State.lane, Lane.idle]

theorem beginWarm_lane (s : State) (l : Fin 8) : (beginWarm s).lane l = .idle (s.lane l).entry := by
  simp [beginWarm, State.lane]

theorem clearOverflows_lane (s : State) (l : Fin 8) :
    State.lane { s with lanes := mapAll (fun x => { x with overflow := 0 }) s.lanes } l = { s.lane l with overflow := 0 } := by
  simp [State.lane]

theorem Event.oneWaiting (h : Event s t) (hs : s.OneWaiting) : t.OneWaiting := by
  cases h with
  | touch run => exact run.oneWaiting hs
  | cold => exact hs.of_sublist fun l => by rw [beginCold_fifo]; exact List.nil_sublist _
  | warm => exact hs.of_sublist fun l => by rw [beginWarm_lane]; exact List.nil_sublist _
  | unbreak _ _ run => exact run.oneWaiting (hs.of_sublist fun _ => .refl _)
  | taken l n rest _ fifo _ _ =>
    have part := State.fifo_setLane (s := s) (l := l) (x := { s.lane l with fifo := rest })
      (by rw [fifo]; exact List.sublist_cons_self n rest)
    exact hs.of_sublist part
  | clock l timer overdue => exact hs.of_sublist (State.fifo_setLane (.refl _))
  | entry l e _ => exact hs.of_sublist (State.fifo_setLane (.refl _))
  | clearOverflows => exact hs.of_sublist fun l => by rw [clearOverflows_lane]
  | retire _ _ _ _ _ _ run _ => exact run.oneWaiting (hs.of_sublist fun _ => .refl _)
  | install m e y r head run same cleared now follows after =>
    have changed := run.oneWaiting (hs.of_sublist fun _ => .refl _)
    exact (after.oneWaiting (changed.of_sublist fun _ => .refl _)).of_sublist fun _ => .refl _
  | retune _ _ _ _ _ run _ => exact run.oneWaiting (hs.of_sublist fun _ => .refl _)
  | sent _ run _ => exact run.oneWaiting (hs.of_sublist fun _ => .refl _)
  | ticks => exact hs.of_sublist fun l => by rw [lane_countTimers]
  | _ => exact hs.of_sublist fun _ => .refl _

/-- Settles O60: a Turn or a Level is queued only where none of its element and binding waits, and what is written over an
untaken one keeps its binding or gives it a fresh one. -/
theorem atMostOneTurnAndLevelWait : Obligations.AtMostOneTurnAndLevelWait :=
  fun _ _ hs taken => step_keeps Event.oneWaiting (fun _ _ h => h) taken hs

end Sys2Proof.Machine

/-! # Elements at rest, and what is owed to the chain, after every step (O58, O59) -/

namespace Sys2Proof.Machine

variable {L : License} {s t u : State} {i : Nat} {m : ModuleIx}

/-! ## Bindings -/

theorem State.binds_of_bound (h : s.bound i = some m) : (s.module m).entry.binds i = true :=
  List.find?_some (p := fun m => (s.module m).entry.binds i) h

theorem State.bound_of_binds (h : s.Mapped) (binds : (s.module m).entry.binds i = true) : s.bound i = some m := by
  cases e : s.bound i with
  | none => exact absurd binds (List.find?_eq_none.mp e m (List.mem_finRange m))
  | some k => rw [h.disjoint k m i (State.binds_of_bound e) binds]

theorem State.bound_congr_binds (h : ∀ k, (t.module k).entry.binds i = (s.module k).entry.binds i) :
    t.bound i = s.bound i := by simp only [State.bound, h]

theorem State.bound_setModule {x : Module} (entry : x.entry = (s.module m).entry) (i : Nat) :
    (s.setModule m x).bound i = s.bound i := by
  refine State.bound_congr_binds fun k => ?_
  by_cases hk : k = m
  · subst hk; rw [State.module_setModule, entry]
  · rw [State.module_setModule_of_ne _ hk]

/-- Another module's entry takes no index that neither the old nor the new entry binds. -/
theorem State.bound_updModule_entry {e : ModuleEntry} (old : (s.module m).entry.binds i ≠ true) (new : e.binds i ≠ true) :
    (s.updModule m fun x => { x with entry := e }).bound i = s.bound i := by
  refine State.bound_congr_binds fun k => ?_
  rw [State.entry_updModule_entry]
  split
  · rename_i hk
    rw [hk, Bool.eq_false_iff.mpr old, Bool.eq_false_iff.mpr new]
  · rfl

theorem bound_countTimers (s : State) (i : Nat) : (countTimers s).bound i = s.bound i :=
  State.bound_congr_binds fun k => by rw [module_countTimers]

/-! ## Open sweeps -/

/-- The slots of each module name its elements, and a module that takes no report holds none. -/
def State.SlotsOk (s : State) : Prop :=
  (∀ m, (s.module m).numbered) ∧ ∀ m, (s.module m).state = .unmapped ∨ (s.module m).state = .silent ∨
    (s.module m).state = .draining → (s.module m).sweep.slots = []

theorem Touch.slotsOk (h : Touch L s t) (hs : s.SlotsOk) : t.SlotsOk := by
  refine ⟨fun m => h.numbered m (hs.1 m), fun m away => ?_⟩
  rw [h.state] at away
  refine h.slots m ?_ (hs.2 m away)
  rcases away with e | e | e <;> rw [e] <;> decide

/-- A module replaced by one whose slots are in order. -/
theorem State.SlotsOk.setModule (h : s.SlotsOk) {x : Module} (numbers : x.numbered)
    (empty : x.state = .unmapped ∨ x.state = .silent ∨ x.state = .draining → x.sweep.slots = []) :
    (s.setModule m x).SlotsOk := by
  refine ⟨fun k => ?_, fun k => ?_⟩ <;> by_cases hk : k = m
  · subst hk; rwa [State.module_setModule]
  · rw [State.module_setModule_of_ne _ hk]; exact h.1 k
  · subst hk; rwa [State.module_setModule]
  · rw [State.module_setModule_of_ne _ hk]; exact h.2 k

theorem Module.numbered_of_empty {x : Module} (h : x.sweep.slots = []) : x.numbered := fun y hy => by
  rw [h] at hy; cases hy

theorem Module.Follows.numbered {x y : Module} (h : x.Follows y) (hx : x.numbered) : y.numbered := fun z hz => by
  rw [h.entry]; exact hx z (h.slots ▸ hz)

theorem State.SlotsOk.of_module (h : s.SlotsOk) (same : ∀ m, (t.module m).entry = (s.module m).entry ∧
    (t.module m).state = (s.module m).state ∧ (t.module m).sweep = (s.module m).sweep) : t.SlotsOk := by
  refine ⟨fun m y hy => ?_, fun m away => ?_⟩ <;> obtain ⟨entry, state, sweep⟩ := same m
  · rw [entry]; rw [sweep] at hy; exact h.1 m y hy
  · rw [sweep]; rw [state] at away; exact h.2 m away

/-- The open sweep of a module whose entry is changed is empty (R36, R37). -/
theorem State.SweepsOk.install_slots (h : s.SweepsOk) {e : ModuleEntry}
    (head : s.head = .ready ∧ (s.module m).state ≠ .active ∧ e.inTable ∧ s.apart m e ∧ (s.module m).sweep.slots = [] ∨
      s.head = .flushing m e) : (s.module m).sweep.slots = [] ∧ (s.module m).state ≠ .active := by
  rcases head with ⟨-, away, -, -, empty⟩ | flushing
  · exact ⟨empty, away⟩
  · have draining := h.flush m e flushing
    exact ⟨h.empty m (.inr (.inr draining)), by rw [draining]; decide⟩

theorem State.SweepsOk.slotsOk (h : s.SweepsOk) : s.SlotsOk := ⟨h.numbers, h.empty⟩

theorem State.SlotsOk.of_empty (empty : ∀ m, (s.module m).sweep.slots = []) : s.SlotsOk :=
  ⟨fun m => Module.numbered_of_empty (empty m), fun m _ => empty m⟩

theorem Event.slotsOk (h : Event s t) (hs : s.SweepsOk) : t.SlotsOk := by
  have ok := hs.slotsOk
  cases h with
  | touch run => exact run.slotsOk ok
  | cold => exact .of_empty fun m => by rw [beginCold_module]; rfl
  | warm => exact .of_empty fun m => by rw [beginWarm_module]; rfl
  | unbreak _ _ run => exact run.slotsOk (ok.of_module fun _ => ⟨rfl, rfl, rfl⟩)
  | become m x was now follows =>
    refine ok.setModule (follows.numbered (ok.1 m)) fun away => ?_
    rcases now with e | e <;> rw [e] at away <;> simp at away
  | retire m x was now slots follows run rest =>
    have empty := follows.slots.trans slots
    exact run.slotsOk (ok.setModule (Module.numbered_of_empty empty) fun _ => empty)
  | install m e y r head run same cleared now follows after =>
    have empty : (s.module m).sweep.slots = [] := (hs.install_slots head).1
    have changed : (s.updModule m fun x => { x with entry := e }).SlotsOk :=
      ok.setModule (Module.numbered_of_empty empty) fun _ => empty
    have still : y.sweep.slots = [] := by
      rw [follows.slots, State.module_congr same]
      simpa [State.updModule] using empty
    have installed := after.slotsOk ((run.slotsOk changed).setModule (Module.numbered_of_empty still) fun _ => still)
    exact installed.of_module fun _ => ⟨rfl, rfl, rfl⟩
  | retune _ _ _ _ _ run _ => exact run.slotsOk (ok.of_module fun _ => ⟨rfl, rfl, rfl⟩)
  | sent _ run _ => exact run.slotsOk (ok.of_module fun _ => ⟨rfl, rfl, rfl⟩)
  | ticks => exact ok.of_module fun m => by rw [module_countTimers]; exact ⟨rfl, rfl, rfl⟩
  | _ => exact ok.of_module fun _ => ⟨rfl, rfl, rfl⟩

/-- A flush belongs to a Draining module, which stays so until it is complete (R37, R41). -/
theorem Event.flush (h : Event s t) (hs : s.SweepsOk) (k : ModuleIx) (x : ModuleEntry) (flushing : t.head = .flushing k x) :
    (t.module k).state = .draining := by
  have beside : ∀ {m : ModuleIx} {y : Module}, (s.module m).state ≠ .draining → s.head = .flushing k x →
      ((s.setModule m y).module k).state = .draining := fun {m y} was head => by
    have draining := hs.flush k x head
    rw [State.module_setModule_of_ne _ fun hk => was (by rw [← hk]; exact draining)]
    exact draining
  cases h with
  | touch run => rw [run.state]; exact hs.flush k x (State.head_of_desk run.desk ▸ flushing)
  | cold => cases flushing
  | warm => rw [beginWarm_head] at flushing; cases flushing
  | unbreak _ _ run => rw [run.state]; exact hs.flush k x (State.head_of_desk run.desk ▸ flushing)
  | head c flush => exact (flush k x flushing).1
  | become m y was now follows => exact beside (by rcases was with e | e <;> rw [e] <;> decide) flushing
  | retire m y was now slots follows run rest =>
    rw [run.state]
    exact beside (by rw [was]; decide) (State.head_of_desk run.desk ▸ flushing)
  | install => cases flushing
  | retune _ _ _ _ _ run _ => rw [run.state]; exact hs.flush k x (State.head_of_desk run.desk ▸ flushing)
  | sent _ run _ => rw [run.state]; exact hs.flush k x (State.head_of_desk run.desk ▸ flushing)
  | ticks => rw [module_countTimers]; exact hs.flush k x flushing
  | _ => exact hs.flush k x flushing

theorem Event.sweepsOk (h : Event s t) (hs : s.SweepsOk) : t.SweepsOk :=
  ⟨(h.slotsOk hs).1, (h.slotsOk hs).2, h.flush hs⟩

/-! ## Elements at rest -/

/-- The index is bound to no Active module. -/
def State.unwatched (s : State) (i : Nat) : Prop := ∀ m, s.bound i = some m → (s.module m).state ≠ .active

theorem State.rested_iff (s : State) : s.Rested ↔ ∀ i, s.unwatched i → (s.element i).control.rested := by
  refine forall_congr' fun i => imp_congr_right fun _ => ?_
  cases (s.element i).control <;> simp [Control.rested]

theorem State.unwatched_congr (bound : t.bound i = s.bound i) (state : ∀ m, (t.module m).state = (s.module m).state) :
    t.unwatched i ↔ s.unwatched i := by simp only [State.unwatched, bound, state]

theorem Touch.unwatched (h : Touch L s t) (i : Nat) : t.unwatched i ↔ s.unwatched i :=
  State.unwatched_congr (h.bound i) h.state

/-- What an event may wake is not at rest, or bound to an Active module. -/
theorem State.not_mayWake (mapped : s.Mapped) (slots : s.SlotsOk) (rest : (s.element i).control.rested)
    (away : s.unwatched i) : ¬ s.mayWake i := by
  rintro (awake | ⟨m, active, on, binds | ⟨x, hx, rfl⟩⟩)
  · exact awake rest
  · exact away m (s.bound_of_binds mapped binds) active
  · have number := slots.1 m x hx
    exact away m (s.bound_of_binds mapped (by simp [ModuleEntry.binds, on, number])) active

/-- What keeps the modules and each control keeps the rest of the elements. -/
theorem State.Rested.of_same (h : s.Rested) (modules : t.modules = s.modules)
    (rest : ∀ i, (s.element i).control.rested → (t.element i).control.rested) : t.Rested := by
  rw [State.rested_iff] at h ⊢
  intro i away
  refine rest i (h i ?_)
  rwa [State.unwatched_congr (State.bound_congr modules i) fun m => by rw [State.module_congr modules]] at away

theorem Touch.restedQuiet {q : Prop} (h : Touch (.quiet q) s t) (hs : s.Rested) : t.Rested := by
  rw [State.rested_iff] at hs ⊢
  exact fun i away => h.stays id (hs i ((h.unwatched i).mp away))

theorem element_beginWarm (s : State) (i : Nat) : ((beginWarm s).element i).control = (s.element i).control.toIdle := by
  have idle : (beginWarm s).element i = (s.mapControls fun _ c => c.toIdle).element i := State.element_congr (by
    simp only [beginWarm, State.mapControls]) i
  rw [idle, State.element_mapControls fun _ => rfl]

theorem element_beginCold (s : State) (i : Nat) : (beginCold s).element i = .cold := rfl

theorem Event.rested (h : Event s t) (mapped : s.Mapped) (sweeps : s.SweepsOk) (hs : s.Rested) : t.Rested := by
  have rest := s.rested_iff.mp hs
  cases h with
  | touch run =>
    rw [State.rested_iff]
    intro i away
    have away := (run.unwatched i).mp away
    exact (run.rested i (rest i away)).resolve_right (State.not_mayWake mapped sweeps.slotsOk (rest i away) away)
  | cold => exact (State.rested_iff _).mpr fun i _ => by rw [element_beginCold]; trivial
  | warm => exact (State.rested_iff _).mpr fun i _ => by rw [element_beginWarm]; exact Control.toIdle_rested _
  | unbreak _ _ run => exact run.restedQuiet (hs.of_same rfl fun _ => id)
  | become m x was now follows =>
    refine (State.rested_iff _).mpr fun i away => rest i fun k bound active => ?_
    refine away k ((State.bound_setModule follows.entry i).trans bound) ?_
    by_cases hk : k = m
    · subst hk; rw [active] at was; simp at was
    · rwa [State.module_setModule_of_ne _ hk]
  | retire m x was now slots follows run stop =>
    refine (State.rested_iff _).mpr fun i away => ?_
    by_cases bound : (s.module m).entry.binds i = true
    · exact stop i bound
    · refine run.stays id (rest i fun k hk active => ?_)
      have away := (run.unwatched i).mp away k ((State.bound_setModule follows.entry i).trans hk)
      have other : k ≠ m := fun same => bound (same ▸ State.binds_of_bound hk)
      rw [State.module_setModule_of_ne _ other] at away
      exact away active
  | @install u v m e y r head run same cleared now follows after =>
    refine (State.rested_iff _).mpr fun i away => after.stays id ?_
    show (u.element i).control.rested
    by_cases bound : (s.module m).entry.binds i = true ∨ e.binds i = true
    · exact (cleared i bound).1
    · rw [not_or] at bound
      refine run.stays id (rest i fun k hk active => ?_)
      have other : k ≠ m := fun e => bound.1 (e ▸ State.binds_of_bound hk)
      have away := (after.unwatched i).mp away k ((State.bound_setModule follows.entry i).trans
        ((run.bound i).trans ((State.bound_updModule_entry bound.1 bound.2).trans hk)))
      rw [State.module_setModule_of_ne _ other, run.state] at away
      refine away ?_
      show ((s.setModule m _).module k).state = _
      rwa [State.module_setModule_of_ne _ other]
  | write i e index range stop echo =>
    refine hs.of_same rfl fun j old => ?_
    by_cases hj : j = i
    · subst hj; rwa [State.element_setElement]
    · rwa [State.element_setElement_of_ne _ hj]
  | retune i c cls range stop run echo =>
    refine run.restedQuiet (hs.of_same rfl fun j old => ?_)
    by_cases hj : j = i
    · subst hj; rw [State.element_setControl]; exact stop old
    · rwa [State.element_setControl_of_ne _ hj]
  | sent _ run _ => exact run.restedQuiet (hs.of_same rfl fun _ => id)
  | ticks =>
    have state : ∀ m, ((countTimers s).module m).state = (s.module m).state := fun m => by rw [module_countTimers]
    refine (State.rested_iff _).mpr fun i away => ?_
    have still := rest i ((State.unwatched_congr (bound_countTimers s i) state).mp away)
    exact (touch_countControls (L := .quiet True) s).stays id still
  | _ => exact hs.of_same rfl fun _ => id

/-- Settles O58: a timer starts and a press is accepted only by a report, a join or an expiry of a bound element of an
Active module, and a module leaves that state with each of its elements brought to rest. -/
theorem timersRunOnlyUnderActiveModules : Obligations.TimersRunOnlyUnderActiveModules := fun _ _ mapped sweeps rest taken =>
  step_keeps (P := fun u => u.Mapped ∧ u.SweepsOk ∧ u.Rested)
    (fun event ⟨h1, h2, h3⟩ => ⟨event.mapped h1, event.sweepsOk h2, event.rested h1 h2 h3⟩)
    (fun _ _ ⟨h1, h2, h3⟩ => ⟨h1.of_entry (fun _ => rfl) fun _ _ => id, ⟨h2.numbers, h2.empty, h2.flush⟩, h3⟩) taken ⟨mapped, sweeps, rest⟩

/-! ## What is owed to the chain -/

/-- Nothing is owed to the chain (R136). -/
structure State.Paid (s : State) : Prop where
  pace   : s.paceOwed = false
  resync : ∀ m, (s.module m).resyncOwed = false
  echo   : ∀ i m, s.bound i = some m → ¬ (s.element i).control.owesEcho

theorem State.owedOnlyWhenFull_iff (s : State) : s.OwedOnlyWhenFull ↔ (s.outbound.length < 32 → s.Paid) := by
  refine imp_congr_right fun _ => ⟨fun ⟨pace, resync, echo⟩ => ⟨pace, resync, fun i m bound owes => ?_⟩,
    fun ⟨pace, resync, echo⟩ => ⟨pace, resync, fun i m p c bound key lamp => ?_⟩⟩
  · cases key : (s.element i).control with
    | key p c =>
      rw [key] at owes
      have := echo i m p c bound key owes.1
      rw [owes.2] at this; cases this
    | _ => rw [key] at owes; exact owes
  · have none_owed := echo i m bound
    rw [key] at none_owed
    exact Bool.eq_false_iff.mpr fun pending => none_owed ⟨lamp, pending⟩

theorem Touch.not_paceOwed (h : Touch L s t) (room : ¬ t.full) (hs : s.paceOwed = false) : t.paceOwed = false :=
  Bool.eq_false_iff.mpr fun owed => by rw [(h.paceOwed owed).resolve_right room] at hs; cases hs

theorem Touch.not_resyncOwed (h : Touch L s t) (room : ¬ t.full) (hs : (s.module m).resyncOwed = false) :
    (t.module m).resyncOwed = false :=
  Bool.eq_false_iff.mpr fun owed => by rw [(h.resyncOwed m owed).resolve_right room] at hs; cases hs

theorem Touch.paid (h : Touch L s t) (room : t.outbound.length < 32) (hs : s.outbound.length < 32 → s.Paid) : t.Paid := by
  obtain ⟨pace, resync, echo⟩ := hs (h.length_le.trans_lt room)
  have not_full : ¬ t.full := Nat.not_le.mpr room
  exact ⟨h.not_paceOwed not_full pace, fun m => h.not_resyncOwed not_full (resync m),
    fun i m bound owes => echo i m (h.bound i ▸ bound) ((h.owesEcho i owes).resolve_right not_full)⟩

theorem State.Paid.of_same (h : s.Paid) (pace : t.paceOwed = s.paceOwed) (modules : t.modules = s.modules)
    (echo : ∀ i, (t.element i).control.owesEcho → (s.element i).control.owesEcho) : t.Paid :=
  ⟨pace.trans h.pace, fun m => by rw [State.module_congr modules]; exact h.resync m,
    fun i m bound owes => h.echo i m (State.bound_congr modules i ▸ bound) (echo i owes)⟩

theorem State.Paid.setModule (h : s.Paid) {x : Module} (follows : (s.module m).Follows x) : (s.setModule m x).Paid := by
  refine ⟨h.pace, fun k => ?_, fun i k bound => h.echo i k (State.bound_setModule follows.entry i ▸ bound)⟩
  by_cases hk : k = m
  · subst hk
    rw [State.module_setModule]
    exact Bool.eq_false_iff.mpr fun owed => by
      have := follows.owed owed
      rw [h.resync] at this; cases this
  · rw [State.module_setModule_of_ne _ hk]; exact h.resync k

/-- An owed pass that finds nothing owed leaves nothing owed (R136). -/
theorem paid_of_owedFrame (h : owedFrame s = none) : s.Paid := by
  unfold owedFrame at h
  split at h
  · cases h
  · rename_i pace
    split at h
    · cases h
    · rename_i resyncs
      split at h
      · cases h
      · rename_i echoes
        refine ⟨by simpa using pace, fun m => ?_, fun i m bound owes => ?_⟩
        · have := List.filter_eq_nil_iff.mp resyncs m (List.mem_finRange m)
          simpa using this
        · cases key : (s.element i).control with
          | key p c =>
            rw [key] at owes
            have listed := State.mem_elements (s := s) (i := i) (by rw [key]; simp)
            have none_owed := List.filterMap_eq_nil_iff.mp echoes _ listed
            obtain ⟨n, lamp⟩ := Option.ne_none_iff_exists'.mp owes.1
            simp [key, bound, lamp, owes.2] at none_owed
          | _ => rw [key] at owes; exact owes

/-- A change of entry leaves nothing owed where the queue has room: the contexts of both ranges are reset. -/
theorem paid_of_install {e : ModuleEntry} {y : Module} {v : State} (hs : s.outbound.length < 32 → s.Paid)
    (run : Touch (.quiet (s.holding = false)) (s.updModule m fun x => { x with entry := e }) u)
    (same : u.modules = (s.updModule m fun x => { x with entry := e }).modules)
    (cleared : ∀ i, (s.module m).entry.binds i = true ∨ e.binds i = true → u.cleared i) (follows : (u.module m).Follows y)
    (after : Touch (.quiet (s.holding = false)) (u.setModule m y) v) (room : v.outbound.length < 32) : v.Paid := by
  have small : u.outbound.length < 32 := Nat.lt_of_le_of_lt after.length_le room
  obtain ⟨pace, resync, echo⟩ := hs (Nat.lt_of_le_of_lt run.length_le small)
  have not_full : ¬ u.full := Nat.not_le.mpr small
  refine after.paid room fun _ => State.Paid.setModule ⟨run.not_paceOwed not_full pace, fun k => ?_, fun i k bound owes => ?_⟩
    follows
  · rw [State.module_congr same]
    show ((s.setModule m _).module k).resyncOwed = _
    by_cases hk : k = m
    · subst hk; rw [State.module_setModule]; exact resync k
    · rw [State.module_setModule_of_ne _ hk]; exact resync k
  · by_cases range : (s.module m).entry.binds i = true ∨ e.binds i = true
    · exact not_full ((cleared i range).2 owes)
    · rw [not_or] at range
      refine echo i k ?_ ((run.owesEcho i owes).resolve_right not_full)
      rwa [run.bound, State.bound_updModule_entry range.1 range.2] at bound

/-- An in-place write leaves nothing owed where the queue has room (R56). -/
theorem paid_of_retune {c : Control} (hs : s.outbound.length < 32 → s.Paid)
    (run : Touch (.quiet (s.holding = false)) (s.setControl i c) t)
    (echo : (t.element i).control.owesEcho → (s.element i).control.owesEcho ∨ t.full) (room : t.outbound.length < 32) :
    t.Paid := by
  have before := hs (Nat.lt_of_le_of_lt run.length_le room)
  have not_full : ¬ t.full := Nat.not_le.mpr room
  refine ⟨run.not_paceOwed not_full before.pace, fun m => run.not_resyncOwed not_full (before.resync m),
    fun j m bound owes => before.echo j m (run.bound j ▸ bound) ?_⟩
  by_cases hj : j = i
  · subst hj; exact (echo owes).resolve_right not_full
  · have := (run.owesEcho j owes).resolve_right not_full
    rwa [State.element_setControl_of_ne _ hj] at this

theorem Event.paid (h : Event s t) (hs : s.outbound.length < 32 → s.Paid) (room : t.outbound.length < 32) : t.Paid := by
  cases h with
  | touch run => exact run.paid room hs
  | cold =>
    exact ⟨rfl, fun m => by rw [beginCold_module]; rfl, fun i m _ => by rw [element_beginCold]; exact id⟩
  | warm =>
    refine ⟨?_, fun m => by rw [beginWarm_module]; rfl, fun i m _ => ?_⟩
    · simp only [beginWarm, beginCold, State.blank]
    · rw [element_beginWarm]; exact Control.not_toIdle_owesEcho _
  | unbreak broken f run =>
    refine run.paid room fun small => (hs ?_).of_same rfl rfl fun _ => id
    simp only [State.pushOut, List.length_append, List.length_singleton] at small
    omega
  | become m x was now follows => exact (hs room).setModule follows
  | retire m x was now slots follows run stop => exact run.paid room fun small => (hs small).setModule follows
  | install m e y r head run same cleared now follows after =>
    exact (paid_of_install hs run same cleared follows after room).of_same rfl rfl fun _ => id
  | write i e index range stop echo =>
    refine (hs room).of_same rfl rfl fun j owes => ?_
    by_cases hj : j = i
    · subst hj; rw [State.element_setElement] at owes; exact absurd owes echo
    · rwa [State.element_setElement_of_ne _ hj] at owes
  | retune i c cls range stop run echo => exact paid_of_retune hs run echo room
  | sent busy run paid => exact paid_of_owedFrame (paid (by simp [State.outboundRoom, State.outboundFree]; omega))
  | ticks =>
    obtain ⟨pace, resync, echo⟩ := hs room
    refine ⟨pace, fun m => by rw [module_countTimers]; exact resync m, fun i m bound owes => ?_⟩
    refine echo i m ((bound_countTimers s i).symm.trans bound) ?_
    rw [element_countTimers] at owes
    cases hc : (s.element i).control <;> rw [hc] at owes <;> exact owes
  | _ => exact (hs room).of_same rfl rfl fun _ => id

/-- Settles O59: a frame is owed only where no entry of the outbound queue was free, and the pass at the end of each
transmission queues what is owed. -/
theorem owedFramesWaitOnlyForRoom : Obligations.OwedFramesWaitOnlyForRoom := fun s t _ _ hs taken =>
  (t.owedOnlyWhenFull_iff).mpr (step_keeps (P := fun u => u.outbound.length < 32 → u.Paid)
    (fun event before => event.paid before)
    (fun _ _ h room => (h room).of_same rfl rfl fun _ => id) taken (s.owedOnlyWhenFull_iff.mp hs))

end Sys2Proof.Machine

/-! # The limits of the queues and the ranges of the counts after every step (O55) -/

namespace Sys2Proof.Machine

variable {L : License} {s t u : State} {i : Nat} {m : ModuleIx}

/-! ## The limits -/

theorem State.queued_of_fifo (h : ∀ l, (t.lane l).fifo = (s.lane l).fifo) : t.queued = s.queued := by
  simp only [State.queued, h]

theorem State.slotsUsed_of_sweep (h : ∀ m, (t.module m).sweep.slots = (s.module m).sweep.slots) :
    t.slotsUsed = s.slotsUsed := by simp only [State.slotsUsed, h]

theorem State.fifo_setLane_same {x : Lane} {l : Fin 8} (h : x.fifo = (s.lane l).fifo) (k : Fin 8) :
    ((s.setLane l x).lane k).fifo = (s.lane k).fifo := by
  rcases s.lane_setLane_cases k l x with ⟨rfl, e⟩ | ⟨-, e⟩
  · rw [e, h]
  · rw [e]

theorem State.sweep_setModule {x : Module} (h : x.sweep.slots = (s.module m).sweep.slots) (k : ModuleIx) :
    ((s.setModule m x).module k).sweep.slots = (s.module k).sweep.slots := by
  by_cases hk : k = m
  · subst hk; rw [State.module_setModule, h]
  · rw [State.module_setModule_of_ne _ hk]

theorem State.forwardedCount_congr (h : t.outbound = s.outbound) : t.forwardedCount = s.forwardedCount := by
  rw [State.forwardedCount, h, State.forwardedCount]

/-- What changes neither a queue nor the pool, the slots or the ring keeps their limits. -/
theorem State.Bounded.of_same (h : s.Bounded) (outbound : t.outbound = s.outbound) (wires : t.wires = s.wires)
    (queued : t.queued = s.queued) (slots : t.slotsUsed = s.slotsUsed) (capture : t.capture = s.capture) : t.Bounded where
  outbound := by rw [outbound]; exact h.outbound
  forwarded := by rw [State.forwardedCount_congr outbound]; exact h.forwarded
  pass := by rw [State.passQueue_of_wires wires]; exact h.pass
  requests := by rw [State.requests_of_wires wires]; exact h.requests
  replies := by rw [State.replies_of_wires wires]; exact h.replies
  pool := by
    have inFlight : t.noticeInFlight = s.noticeInFlight := by
      rw [State.noticeInFlight, State.consoleTx_of_wires wires, State.noticeInFlight]
    rw [queued, inFlight]; exact h.pool
  slots := by rw [slots]; exact h.slots
  stack := by rw [State.stack_of_wires wires]; exact h.stack
  burst := by rw [State.burst_of_wires wires]; exact h.burst
  capture := by rw [capture]; exact h.capture
  sending := by rw [outbound, State.surfaceSending_of_wires wires]; exact h.sending
  held := by rw [outbound, State.holding_of_wires wires]; exact h.held
  detector := by
    rw [show t.powerReset = s.powerReset from congrArg Wires.powerReset wires,
      show t.detector = s.detector from congrArg Wires.detector wires]
    exact h.detector

theorem Touch.bounded (h : Touch L s t) (quiet : s.holding = true → ¬ L.send) (hs : s.Bounded) : t.Bounded where
  outbound := h.length_le_limit hs.outbound
  forwarded := h.forwardedCount_le hs.forwarded
  pass := State.passQueue_of_desk h.desk ▸ hs.pass
  requests := State.requests_of_desk h.desk ▸ hs.requests
  replies := State.replies_of_desk h.desk ▸ hs.replies
  pool := h.pool hs.pool
  slots := h.slotsUsed hs.slots
  stack := State.stack_of_desk h.desk ▸ hs.stack
  burst := State.burst_of_desk h.desk ▸ hs.burst
  capture := h.heldCount hs.capture
  sending := fun busy empty => by
    refine hs.sending (State.surfaceSending_of_desk h.desk ▸ busy) (List.length_eq_zero_iff.mp ?_)
    have := h.length_le
    rw [empty, List.length_nil] at this
    omega
  held := fun held => by
    have held : s.holding = true := State.holding_of_desk h.desk ▸ held
    rw [h.outbound_of_not_send (quiet held)]
    exact hs.held held
  detector := fun reset => (State.detector_of_desk h.desk).trans
    (hs.detector ((State.powerReset_of_desk h.desk).symm.trans reset))

/-- A state with nothing queued, nothing held and nothing in flight is within the limits. -/
theorem State.Bounded.of_empty (outbound : s.outbound = []) (pass : s.passQueue = []) (requests : s.requests = [])
    (replies : s.replies = []) (idle : s.consoleTx = none) (fifo : ∀ l, (s.lane l).fifo = [])
    (slots : ∀ m, (s.module m).sweep.slots = []) (stack : s.stack = []) (burst : s.burst = 0)
    (capture : s.capture.readable = [] ∧ s.capture.uncommitted = []) (sending : s.surfaceSending = false)
    (detector : s.detector = .clear) : s.Bounded := by
  have queued : s.queued = 0 := by simp [State.queued, fifo]
  have used : s.slotsUsed = 0 := by simp [State.slotsUsed, slots]
  constructor <;> simp_all [State.forwardedCount, State.noticeInFlight]

theorem bounded_beginCold (s : State) : (beginCold s).Bounded :=
  .of_empty rfl rfl rfl rfl rfl (beginCold_fifo s) (fun m => by rw [beginCold_module]; rfl) rfl rfl ⟨rfl, rfl⟩ rfl rfl

theorem bounded_beginWarm (s : State) : (beginWarm s).Bounded := by
  have wires := beginWarm_wires (s := s)
  refine .of_empty ?_ ?_ ?_ ?_ ?_ (fun l => by rw [beginWarm_lane]; rfl) (fun m => by rw [beginWarm_module]; rfl)
    ?_ ?_ ?_ ?_ ?_ <;> simp only [beginWarm, beginCold, State.blank, CaptureRing.idle, and_self]

theorem Event.bounded (h : Event s t) (hs : s.Bounded) : t.Bounded := by
  cases h with
  | touch run => exact run.bounded (fun held free => by rw [State.license, held] at free; cases free) hs
  | lines surface console pause rx d reset cause held clear =>
    refine ⟨hs.outbound, hs.forwarded, hs.pass, hs.requests, hs.replies, hs.pool, hs.slots, hs.stack, hs.burst, hs.capture,
      hs.sending, fun now => (held now).elim hs.held id, clear hs.detector⟩
  | cold => exact bounded_beginCold s
  | warm => exact bounded_beginWarm s
  | @unbreak _ broken f run =>
    have held : s.holding = true := by simp [State.holding, broken]
    have empty := hs.held held
    have reset : s.powerReset = false := Bool.eq_false_iff.mpr fun reset => by
      rw [hs.detector reset] at broken; cases broken
    have free : State.holding { s with detector := .clear } = false := by simp [State.holding, reset]
    refine run.bounded (fun now => ?_) ?_
    · exact absurd (free.symm.trans now) (by decide)
    · refine ⟨?_, ?_, hs.pass, hs.requests, hs.replies, hs.pool, hs.slots, hs.stack, hs.burst, hs.capture, fun _ => ?_,
        fun now => ?_, fun _ => rfl⟩
      · simp [State.pushOut, empty]
      · simp [State.pushOut, State.forwardedCount, empty]
      · simp [State.pushOut]
      · exact absurd (free.symm.trans now) (by decide)
  | queues tx burst pass stack requests replies burst_le pass_le requests_le replies_le nodup pool =>
    refine ⟨hs.outbound, hs.forwarded, pass_le hs.pass, requests_le hs.requests, replies_le hs.replies, ?_, hs.slots,
      nodup hs.stack, burst_le hs.burst, hs.capture, hs.sending, hs.held, hs.detector⟩
    refine le_trans (Nat.add_le_add_left ?_ s.queued) hs.pool
    rcases pool with rfl | other
    · exact le_rfl
    · cases tx with
      | none => exact Nat.zero_le _
      | some f =>
        cases f with
        | notice n => exact absurd rfl (other n)
        | _ => exact Nat.zero_le _
  | taken l n rest burst fifo idle burst_le =>
    refine ⟨hs.outbound, hs.forwarded, hs.pass, hs.requests, hs.replies, ?_, hs.slots, hs.stack, burst_le hs.burst,
      hs.capture, hs.sending, hs.held, hs.detector⟩
    have fewer : (s.setLane l { s.lane l with fifo := rest }).queued + (s.lane l).fifo.length = s.queued + rest.length :=
      s.queued_setLane l { s.lane l with fifo := rest }
    rw [fifo, List.length_cons] at fewer
    have before := (Nat.le_add_right s.queued s.noticeInFlight).trans hs.pool
    have one_less : (s.setLane l { s.lane l with fifo := rest }).queued + 1 = s.queued := by omega
    exact one_less.le.trans before
  | clock l timer overdue =>
    exact hs.of_same rfl rfl (State.queued_of_fifo (State.fifo_setLane_same rfl)) rfl rfl
  | head c flush => exact hs.of_same rfl rfl rfl rfl rfl
  | settings x range => exact hs.of_same rfl rfl rfl rfl rfl
  | profile p x range => exact hs.of_same rfl rfl rfl rfl rfl
  | entry l e range => exact hs.of_same rfl rfl (State.queued_of_fifo (State.fifo_setLane_same rfl)) rfl rfl
  | clearOverflows =>
    exact hs.of_same rfl rfl (State.queued_of_fifo fun l => by rw [clearOverflows_lane]) rfl rfl
  | become m x was now follows =>
    exact hs.of_same rfl rfl rfl (State.slotsUsed_of_sweep (State.sweep_setModule follows.slots)) rfl
  | retire m x was now slots follows run rest =>
    refine run.bounded (fun held free => ?_)
      (hs.of_same rfl rfl rfl (State.slotsUsed_of_sweep (State.sweep_setModule follows.slots)) rfl)
    exact absurd (free.symm.trans held) (by decide)
  | @install u v m e y r head run same cleared now follows after =>
    have changed : u.Bounded := by
      refine run.bounded (fun held free => absurd (free.symm.trans held) (by decide))
        (hs.of_same rfl rfl rfl (State.slotsUsed_of_sweep (State.sweep_setModule rfl)) rfl)
    have placed : v.Bounded := by
      refine after.bounded (fun held free => ?_)
        (changed.of_same rfl rfl rfl (State.slotsUsed_of_sweep (State.sweep_setModule follows.slots)) rfl)
      have held : s.holding = true := (State.holding_of_desk run.desk).symm.trans held
      exact absurd (free.symm.trans held) (by decide)
    exact placed.of_same rfl rfl rfl rfl rfl
  | write i e index range rest echo => exact hs.of_same rfl rfl rfl rfl rfl
  | retune i c cls range rest run echo =>
    exact run.bounded (fun held free => absurd (free.symm.trans held) (by decide)) (hs.of_same rfl rfl rfl rfl rfl)
  | sent busy run paid =>
    have waits := hs.sending busy
    have free : s.holding = false := Bool.eq_false_iff.mpr fun held => waits (hs.held held)
    refine run.bounded (fun held => absurd (free.symm.trans held) (by decide)) ?_
    refine ⟨?_, ?_, hs.pass, hs.requests, hs.replies, hs.pool, hs.slots, hs.stack, hs.burst, hs.capture,
      (fun idle => by cases idle), fun held => absurd (free.symm.trans held) (by decide), hs.detector⟩
    · rw [List.length_tail]
      exact (Nat.sub_le _ _).trans hs.outbound
    · exact (((List.tail_sublist s.outbound).filter _).length_le).trans hs.forwarded
  | start waits =>
    exact ⟨hs.outbound, hs.forwarded, hs.pass, hs.requests, hs.replies, hs.pool, hs.slots, hs.stack, hs.burst, hs.capture,
      fun _ => waits, hs.held, hs.detector⟩
  | ticks =>
    exact hs.of_same rfl rfl (State.queued_of_fifo fun l => by rw [lane_countTimers])
      (State.slotsUsed_of_sweep fun m => by rw [module_countTimers]) rfl

/-! ## The ranges -/

theorem State.InRange.counted (h : s.InRange) : s.counters.inRange :=
  ⟨h.link.1, h.link.2.1, h.link.2.2, h.range, h.notices.1, h.queues⟩

theorem Touch.inRange (h : Touch L s t) (sound : L.sound) (hs : s.InRange) : t.InRange := by
  obtain ⟨h1, h2, h3, h4, h5, h6⟩ := h.counters hs.counted
  refine ⟨⟨h1, h2, h3⟩, h4, ⟨h5, h.systemLost hs.notices.2.1, fun l => h.overflow l (hs.notices.2.2 l)⟩, h6,
    h.dropped hs.capture, fun m => h.moduleRange m (hs.modules m), fun i => h.controlRange sound i (hs.elements i), ?_, ?_,
    fun l => ?_⟩
  · rw [State.settings_of_desk h.desk]; exact hs.settings
  · rw [State.profiles_of_desk h.desk]; exact hs.profiles
  · rw [h.laneEntry]; exact hs.lanes l

/-- What leaves the counters, the ring and the table store alone keeps the ranges where the lanes, the modules and the
elements keep theirs. -/
theorem State.InRange.of_same (h : s.InRange) (counters : t.counters = s.counters) (lost : t.systemLost = s.systemLost)
    (capture : t.capture.dropped = s.capture.dropped) (settings : t.settings = s.settings)
    (profiles : t.profiles = s.profiles)
    (lanes : ∀ l, (t.lane l).overflow ≤ 65535 ∧ (t.lane l).entry.inRange) (modules : ∀ m, (t.module m).inRange)
    (elements : ∀ i, (t.element i).control.inRange) : t.InRange := by
  obtain ⟨h1, h2, h3, h4, h5, h6⟩ := h.counted
  refine ⟨?_, ?_, ?_, ?_, ?_, modules, elements, ?_, ?_, fun l => (lanes l).2⟩
  · rw [counters]; exact ⟨h1, h2, h3⟩
  · rw [counters]; exact h4
  · rw [counters, lost]; exact ⟨h5, h.notices.2.1, fun l => (lanes l).1⟩
  · rw [counters]; exact h6
  · rw [capture]; exact h.capture
  · rw [settings]; exact h.settings
  · rw [profiles]; exact h.profiles

theorem State.InRange.lane (h : s.InRange) (l : Fin 8) : (s.lane l).overflow ≤ 65535 ∧ (s.lane l).entry.inRange :=
  ⟨h.notices.2.2 l, h.lanes l⟩

/-- A lane replaced by one in range. -/
theorem State.InRange.setLane (h : s.InRange) {x : Lane} {l : Fin 8} (overflow : x.overflow ≤ 65535)
    (entry : x.entry.inRange) : (s.setLane l x).InRange := by
  refine h.of_same rfl rfl rfl rfl rfl (fun k => ?_) h.modules h.elements
  rcases s.lane_setLane_cases k l x with ⟨rfl, e⟩ | ⟨-, e⟩ <;> rw [e]
  · exact ⟨overflow, entry⟩
  · exact h.lane k

theorem State.InRange.setModule (h : s.InRange) {x : Module} (range : (s.module m).inRange → x.inRange) :
    (s.setModule m x).InRange := by
  refine h.of_same rfl rfl rfl rfl rfl h.lane (fun k => ?_) h.elements
  by_cases hk : k = m
  · subst hk; rw [State.module_setModule]; exact range (h.modules k)
  · rw [State.module_setModule_of_ne _ hk]; exact h.modules k

theorem State.InRange.setElement (h : s.InRange) {e : Element} (range : e.control.inRange) :
    (s.setElement i e).InRange := by
  refine h.of_same rfl rfl rfl rfl rfl h.lane h.modules fun j => ?_
  by_cases hj : j = i
  · subst hj; rwa [State.element_setElement]
  · rw [State.element_setElement_of_ne _ hj]; exact h.elements j

theorem Module.idle_inRange (e : ModuleEntry) : (Module.idle e).inRange :=
  ⟨Nat.zero_le _, Nat.zero_le _, Nat.zero_le _, Nat.zero_le _, Nat.zero_le _⟩

/-- A state with every counter 0, every module idle, and what a restart leaves of the tables. -/
theorem State.InRange.of_idle (counters : s.counters = .zero) (lost : s.systemLost = 0) (capture : s.capture.dropped = 0)
    (settings : s.settings.inRange) (profiles : ∀ p : Fin 8, s.profiles[p].inRange)
    (lanes : ∀ l, (s.lane l).overflow = 0 ∧ (s.lane l).entry.inRange) (modules : ∀ m, (s.module m).inRange)
    (elements : ∀ i, (s.element i).control.inRange) : s.InRange := by
  refine ⟨?_, ?_, ?_, ?_, ?_, modules, elements, settings, profiles, fun l => (lanes l).2⟩ <;>
    simp [counters, lost, capture, Counters.zero, lanes]

theorem LaneEntry.cold_inRange (l : Fin 8) : (LaneEntry.cold l).inRange :=
  ⟨Nat.le_of_lt_succ l.isLt, Nat.succ_pos 15, show 16 ≤ 128 by decide, Nat.zero_le _⟩

theorem beginCold_lane (s : State) (l : Fin 8) : (beginCold s).lane l = .idle (.cold l) := by
  simp [beginCold, State.blank, State.lane]

theorem Settings.cold_inRange : Settings.cold.inRange := by unfold Settings.inRange; decide

theorem inRange_beginCold (s : State) : (beginCold s).InRange := by
  refine .of_idle rfl rfl rfl Settings.cold_inRange (fun p => ?_) (fun l => ?_) (fun m => ?_) fun i => trivial
  · simp [beginCold, State.blank, Profile.cold, Profile.inRange]
  · rw [beginCold_lane]; exact ⟨rfl, LaneEntry.cold_inRange l⟩
  · rw [beginCold_module]; exact Module.idle_inRange _

theorem inRange_beginWarm (h : s.InRange) : (beginWarm s).InRange := by
  have settings : (beginWarm s).settings = s.settings := by simp only [beginWarm]
  have profiles : (beginWarm s).profiles = s.profiles := by simp only [beginWarm]
  refine .of_idle ?_ ?_ ?_ ?_ (fun p => ?_) (fun l => ?_) (fun m => ?_) fun i => ?_
  · simp only [beginWarm, beginCold, State.blank]
  · simp only [beginWarm, beginCold, State.blank]
  · simp only [beginWarm, CaptureRing.idle]
  · rw [settings]; exact h.settings
  · rw [profiles]; exact h.profiles p
  · rw [beginWarm_lane]; exact ⟨rfl, h.lanes l⟩
  · rw [beginWarm_module]; exact Module.idle_inRange _
  · rw [element_beginWarm]; exact Control.toIdle_inRange (h.elements i)

theorem Event.inRange (h : Event s t) (hs : s.InRange) : t.InRange := by
  cases h with
  | touch run => exact run.inRange hs hs
  | cold => exact inRange_beginCold s
  | warm => exact inRange_beginWarm hs
  | unbreak _ _ run => exact run.inRange trivial (hs.of_same rfl rfl rfl rfl rfl hs.lane hs.modules hs.elements)
  | taken l n rest burst fifo idle burst_le =>
    have taken := hs.setLane (l := l) (x := { s.lane l with fifo := rest }) (hs.lane l).1 (hs.lane l).2
    exact taken.of_same rfl rfl rfl rfl rfl taken.lane taken.modules taken.elements
  | clock l timer overdue => exact hs.setLane (hs.lane l).1 (hs.lane l).2
  | settings x range =>
    exact ⟨hs.link, hs.range, hs.notices, hs.queues, hs.capture, hs.modules, hs.elements, range, hs.profiles, hs.lanes⟩
  | profile p x range =>
    refine ⟨hs.link, hs.range, hs.notices, hs.queues, hs.capture, hs.modules, hs.elements, hs.settings, fun q => ?_, hs.lanes⟩
    by_cases same : p = q
    · subst same; simpa [Profile.inRange] using range
    · have other : (p : Nat) ≠ q := fun e => same (Fin.ext e)
      simpa [Vector.getElem_set, other] using hs.profiles q
  | entry l e range => exact hs.setLane (hs.lane l).1 range
  | clearOverflows =>
    refine hs.of_same rfl rfl rfl rfl rfl (fun l => ?_) hs.modules hs.elements
    rw [clearOverflows_lane]
    exact ⟨Nat.zero_le _, hs.lanes l⟩
  | become m x was now follows => exact hs.setModule follows.range
  | retire m x was now slots follows run rest => exact run.inRange trivial (hs.setModule follows.range)
  | install m e y r head run same cleared now follows after =>
    have changed := run.inRange trivial (hs.setModule id)
    have placed := after.inRange trivial (changed.setModule follows.range)
    exact placed.of_same rfl rfl rfl rfl rfl placed.lane placed.modules placed.elements
  | write i e index range rest echo => exact hs.setElement range
  | retune i c cls range rest run echo => exact run.inRange trivial (hs.setElement (range (hs.elements i)))
  | sent _ run _ => exact run.inRange trivial (hs.of_same rfl rfl rfl rfl rfl hs.lane hs.modules hs.elements)
  | ticks =>
    refine hs.of_same rfl rfl rfl rfl rfl (fun l => ?_) (fun m => ?_) fun i => ?_
    · rw [lane_countTimers]; exact hs.lane l
    · rw [module_countTimers]; exact hs.modules m
    · exact (touch_countControls (L := .quiet True) s).controlRange trivial i (hs.elements i)
  | _ => exact hs.of_same rfl rfl rfl rfl rfl hs.lane hs.modules hs.elements

/-- Settles O55: each queue takes an entry only where one is free, each count stops at its top, and each field of a table
is written from operands that pass their checks. -/
theorem stepKeepsQueuesAndCountersBounded : Obligations.StepKeepsQueuesAndCountersBounded :=
  ⟨fun _ _ hs taken => step_keeps Event.bounded (fun _ _ h => ⟨h.outbound, h.forwarded, h.pass, h.requests, h.replies,
      h.pool, h.slots, h.stack, h.burst, h.capture, h.sending, h.held, h.detector⟩) taken hs,
    fun _ _ hs taken => step_keeps Event.inRange
      (fun _ _ h => h.of_same rfl rfl rfl rfl rfl h.lane h.modules h.elements) taken hs⟩

end Sys2Proof.Machine

/-! # The queue of commands, the reset state, and the framers (O1, O2, O3, O5, O6, O7, O53) -/

namespace Sys2Proof.Machine

variable {s t : State} {p : Port}

/-! ## The queue of commands -/

/-- Settles O1: by the definition of a step. -/
theorem stepExecutesFrontCommand : Obligations.StepExecutesFrontCommand := fun _ _ _ => rfl

/-- A command answers with the state it leaves. -/
theorem exec_eq_next (c : Instr) (s : State) : exec c s = .next (s.afterCommand c) := by
  cases c with
  | watchdogExpiry a =>
    unfold State.afterCommand
    simp only [exec, execWatchdogExpiry]
    cases moduleOf a <;> rfl
  | _ => rfl

/-- Settles O2: every command is a run of events, and none of them touches the commands that wait. -/
theorem commandsAnswerAndKeepQueue : Obligations.CommandsAnswerAndKeepQueue :=
  ⟨fun c s => ⟨_, exec_eq_next c s, (events_afterCommand c s).pending⟩, fun s empty => by rw [step, empty]⟩

/-! ## Reset -/

theorem reset_lane (l : Fin 8) : State.reset.lane l = .idle (.cold l) := by simp [State.reset, State.blank, State.lane]

theorem reset_module (m : ModuleIx) : State.reset.module m = .idle .cold := by
  simp [State.reset, State.blank, State.module]

theorem reset_element (i : Nat) : State.reset.element i = .cold := rfl

theorem reset_profile (p : Fin 8) : State.reset.profiles[p] = .cold := by simp [State.reset, State.blank]

theorem reset_queued : State.reset.queued = 0 := by simp [State.queued, reset_lane, Lane.idle]

/-- Settles O3: field by field. -/
theorem resetHoldsTheSpecValues : Obligations.ResetHoldsTheSpecValues := by
  have slots : State.reset.freeSlots = 127 := by
    rw [State.freeSlots, reset_queued]; rfl
  refine ⟨rfl, reset_profile, reset_lane, reset_module, reset_element, rfl, rfl, rfl, rfl, rfl, slots, rfl, rfl, rfl, rfl, rfl,
    rfl, rfl, rfl, rfl, rfl, rfl, rfl, rfl, rfl, rfl⟩

theorem reset_unbound (i : Nat) : State.reset.bound i = none :=
  List.find?_eq_none.mpr fun m _ => by rw [reset_module]; simp [Module.idle, ModuleEntry.cold, ModuleEntry.binds]

theorem bounded_reset : State.reset.Bounded where
  outbound := Nat.zero_le _
  forwarded := Nat.zero_le _
  pass := Nat.zero_le _
  requests := Nat.zero_le _
  replies := Nat.zero_le _
  pool := by rw [reset_queued]; exact show 0 + 1 ≤ 128 by decide
  slots := by simp [State.slotsUsed, reset_module, Module.idle, OpenSweep.empty]
  stack := List.nodup_nil
  burst := Nat.zero_le _
  capture := Nat.zero_le _
  sending := fun busy => by cases busy
  held := fun _ => rfl
  detector := fun _ => rfl

theorem inRange_reset : State.reset.InRange :=
  .of_idle rfl rfl rfl Settings.cold_inRange (fun p => by rw [reset_profile]; simp [Profile.cold, Profile.inRange])
    (fun l => by rw [reset_lane]; exact ⟨rfl, LaneEntry.cold_inRange l⟩)
    (fun m => by rw [reset_module]; exact Module.idle_inRange _) fun _ => trivial

theorem mapped_reset : State.reset.Mapped := by
  refine ⟨fun k => ?_, fun k j i => ?_, fun k x flushing => ?_⟩
  · rw [reset_module]; decide
  · rw [reset_module]; simp [Module.idle, ModuleEntry.cold, ModuleEntry.binds]
  · cases flushing

/-- Settles O53: nothing is mapped, queued, owed or due, but for the Restarted notice in flight. -/
theorem resetMeetsTheInvariants : Obligations.ResetMeetsTheInvariants := by
  have empty : ∀ m, (State.reset.module m).sweep.slots = [] := fun m => by rw [reset_module]; rfl
  refine ⟨⟨rfl, List.forall_mem_nil fun p : Nat × Element => p.1 < 1024⟩, bounded_reset, inRange_reset, mapped_reset,
    ⟨fun m => Module.numbered_of_empty (empty m), fun m _ => empty m, fun _ _ flushing => (by cases flushing)⟩,
    (State.rested_iff _).mpr fun i _ => trivial, (State.owedOnlyWhenFull_iff _).mpr fun _ => ⟨rfl, fun m => ?_, fun _ _ _ => id⟩,
    fun i a n => ?_, ⟨fun _ _ => rfl, fun _ _ head => (by cases head),
      fun _ _ _ head => (by cases head), fun _ idle => (by cases idle), fun _ => .inr rfl⟩⟩
  · rw [reset_module]; rfl
  · have none_waits : ∀ k, State.reset.waitingFor k i a n = 0 := fun k => by simp [State.waitingFor, reset_lane, Lane.idle]
    rw [none_waits, none_waits]
    decide

/-! ## The framers -/

@[simp] theorem framer_setFramer (p : Port) (x : Framer) (s : State) : (s.setFramer p x).framer p = x := by cases p <;> rfl

@[simp] theorem setFramer_setFramer (p : Port) (x y : Framer) (s : State) :
    (s.setFramer p x).setFramer p y = s.setFramer p y := by cases p <;> rfl

@[simp] theorem holding_setFramer (p : Port) (x : Framer) (s : State) : (s.setFramer p x).holding = s.holding := by
  cases p <;> rfl

/-- A framer set to what it holds is no change. -/
theorem setFramer_eq_self {x : Framer} (h : s.framer p = x) : s.setFramer p x = s := by
  subst h; cases p <;> rfl

theorem exec_character (free : s.holding = false) (p : Port) (e : LineEvent) :
    exec (.characterEvent p e) s = .next (match e with
      | .start b => startCharacter p b s
      | .continuation b => continuation p b s
      | .error => characterError p s) :=
  congrArg Host.Outcome.next (if_neg (by rw [free]; decide))

theorem startCharacter_of_hunting (h : s.framer p = .hunting) (b : Byte) :
    startCharacter p b s = s.setFramer p (.address b) := by rw [startCharacter, h]

theorem startCharacter_of_partial (h : s.framer p ≠ .hunting) (b : Byte) :
    startCharacter p b s = (s.countFrameError p).setFramer p (.address b) := by
  unfold startCharacter
  split
  · exact absurd ‹_› h
  · rfl

theorem characterError_of_partial (h : s.framer p ≠ .hunting) :
    characterError p s = (s.countFrameError p).setFramer p .hunting := by
  unfold characterError
  split
  · exact absurd ‹_› h
  · rfl

theorem continuation_of_address {k : Byte} (h : s.framer p = .address k) (b : Byte) :
    continuation p b s = s.setFramer p (.length k b) := by rw [continuation, h]

theorem continuation_of_length {k a : Byte} (h : s.framer p = .length k a) (b : Byte) :
    continuation p b s = if b.toNat ≤ 240 then s.setFramer p (.body k a b [])
      else (s.countFrameError p).setFramer p .hunting := by rw [continuation, h]

theorem continuation_of_body {k a l : Byte} {got : List Byte} (h : s.framer p = .body k a l got)
    (more : got.length + 1 < l.toNat + 2) (b : Byte) :
    continuation p b s = s.setFramer p (.body k a l (got ++ [b])) := by
  rw [continuation, h]
  exact if_pos more

/-- The last character of a frame completes it (R6). -/
theorem continuation_of_last {k a l : Byte} {got : List Byte} (h : s.framer p = .body k a l got)
    (last : got.length + 1 = l.toNat + 2) (b : Byte) :
    continuation p b s = frameComplete p k a l (got ++ [b]) (s.setFramer p .hunting) := by
  rw [continuation, h]
  exact if_neg (by omega)

/-- The checks of a complete frame, on its payload and the two bytes after it (R6). -/
theorem frameComplete_eq (p : Port) (k a l : Byte) {payload : List Byte} (len : payload.length = l.toNat) (hi lo : Byte)
    (s : State) : frameComplete p k a l (payload ++ [hi, lo]) s =
      if twoBytes (check (k :: a :: l :: payload)).toNat = [hi, lo] ∧ k.toNat < 16 ∧ a.toNat < 64 then
        settle (route p ⟨k.setWidth 4, a.setWidth 6, payload⟩ s)
      else s.countFrameError p := by
  have taken : (payload ++ [hi, lo]).take l.toNat = payload := by rw [← len]; exact List.take_left
  have dropped : (payload ++ [hi, lo]).drop l.toNat = [hi, lo] := by rw [← len]; exact List.drop_left
  rw [frameComplete, taken, dropped, wordBytes_eq_twoBytes]

/-- Settles O5: each row of the table by the state of the framer. -/
theorem framerFollowsItsTable : Obligations.FramerFollowsItsTable := by
  intro p s free
  refine ⟨fun hunting => ⟨fun b => ?_, fun b => ?_, ?_⟩, fun partial_ => ⟨fun b => ?_, ?_⟩, fun k b h => ?_, fun k a b h => ?_,
    fun k a l got b h more => ?_, fun k a l payload hi lo h len => ?_⟩ <;> rw [exec_character free] <;> congr 1
  · exact startCharacter_of_hunting hunting b
  · exact show continuation p b s = s by rw [continuation, hunting]
  · exact show characterError p s = s by rw [characterError, hunting]
  · exact startCharacter_of_partial partial_ b
  · exact characterError_of_partial partial_
  · exact continuation_of_address h b
  · exact continuation_of_length h b
  · exact continuation_of_body h more b
  · refine (continuation_of_last h (by simp [len]) lo).trans ?_
    rw [List.append_assoc]
    exact frameComplete_eq p k a l len hi lo _

/-! ## A frame character by character -/

theorem endPartial_framer (p : Port) (s : State) : (endPartial p s).framer p = .hunting := by
  unfold endPartial
  split
  · assumption
  · simp

/-- The start character of a frame ends a partial one and begins its own (R5). -/
theorem startCharacter_eq (p : Port) (b : Byte) (s : State) :
    startCharacter p b s = (endPartial p s).setFramer p (.address b) := by
  unfold endPartial
  split
  · exact startCharacter_of_hunting ‹_› b
  · rename_i h
    rw [startCharacter_of_partial (fun hunting => h hunting), setFramer_setFramer]

theorem character_continuation (free : s.holding = false) (p : Port) (b : Byte) :
    character p (.continuation b) s = continuation p b s := by
  unfold character
  rw [if_neg (by rw [free]; decide)]

/-- `s` with other commands waiting. -/
def State.awaiting (s : State) (q : List Instr) : State := { s with pending := q }

/-- A run takes its first step. -/
theorem run_of_step {M : Host.Core} {x y : M.State} (h : M.step x = .next y) (n : Nat) : M.run (n + 1) x = M.run n y := by
  rw [Host.Core.run, h]

/-- A character at the front of the queue is one step. -/
theorem run_character {e : LineEvent} {q : List Instr} {v : State} (h : character p e (s.awaiting q) = v) (n : Nat) :
    Host.Core.run Sys2Proof.core (n + 1) (s.awaiting (.characterEvent p e :: q)) = Host.Core.run Sys2Proof.core n v :=
  run_of_step (M := Sys2Proof.core) (by rw [← h]; rfl) n

theorem run_character_awaiting {e : LineEvent} {q : List Instr} {v : State}
    (h : ∀ q, character p e (s.awaiting q) = v.awaiting q) (n : Nat) :
    Host.Core.run Sys2Proof.core (n + 1) (s.awaiting (.characterEvent p e :: q)) =
      Host.Core.run Sys2Proof.core n (v.awaiting q) := run_character (h q) n

theorem setFramer_awaiting (p : Port) (x : Framer) (s : State) (q : List Instr) :
    (s.awaiting q).setFramer p x = (s.setFramer p x).awaiting q := by cases p <;> rfl

theorem framer_awaiting (p : Port) (s : State) (q : List Instr) : (s.awaiting q).framer p = s.framer p := by cases p <;> rfl

theorem endPartial_awaiting (p : Port) (s : State) (q : List Instr) :
    endPartial p (s.awaiting q) = (endPartial p s).awaiting q := by
  unfold endPartial
  rw [framer_awaiting]
  split
  · rfl
  · cases p <;> rfl

/-- The characters of a body, down to the last, complete the frame (R5). -/
theorem run_body (free : s.holding = false) {k a l : Byte} (rest : List Instr) (bs : List Byte) {got : List Byte}
    (some_left : bs ≠ []) (whole : got.length + bs.length = l.toNat + 2) :
    Host.Core.run Sys2Proof.core bs.length ((s.setFramer p (.body k a l got)).awaiting
      (bs.map (fun b => .characterEvent p (.continuation b)) ++ rest)) =
      .next (frameComplete p k a l (got ++ bs) ((s.setFramer p .hunting).awaiting rest)) := by
  induction bs generalizing got with
  | nil => exact absurd rfl some_left
  | cons b bs ih =>
    have state : ∀ q, ((s.setFramer p (.body k a l got)).awaiting q).framer p = .body k a l got := fun q => by
      rw [framer_awaiting, framer_setFramer]
    have running : ∀ q, ((s.setFramer p (.body k a l got)).awaiting q).holding = false := fun q => by
      show (s.setFramer p _).holding = false
      rwa [holding_setFramer]
    cases bs with
    | nil =>
      rw [List.length_singleton] at whole ⊢
      refine (run_character ((character_continuation (running _) p b).trans
        (continuation_of_last (state _) whole b)) 0).trans ?_
      rw [setFramer_awaiting, setFramer_setFramer]
      rfl
    | cons c bs =>
      simp only [List.length_cons] at whole
      refine (run_character ((character_continuation (running _) p b).trans
        (continuation_of_body (state _) (by omega) b)) _).trans ?_
      rw [setFramer_awaiting, setFramer_setFramer]
      refine (ih (by simp) (by simp; omega)).trans ?_
      rw [List.append_assoc]
      rfl

theorem frameCharacters_eq (f : Frame) : frameCharacters f = .start (kindByte f) ::
    (addrByte f :: lengthByte f :: f.payload ++ wordBytes (check (checkedBytes f))).map .continuation := rfl

/-- The characters of a frame are one frame (R5, R6). -/
theorem run_frameCharacters (f : Frame) (rest : List Instr) (free : s.holding = false) (len : f.payload.length ≤ 240) (p : Port) :
    Host.Core.run Sys2Proof.core (frameCharacters f).length
      (s.awaiting ((frameCharacters f).map (.characterEvent p) ++ rest)) =
      .next (frameArrives p f (s.awaiting rest)) := by
  have length : (lengthByte f).toNat = f.payload.length := by
    rw [lengthByte, BitVec.toNat_ofNat]; omega
  have kind : (kindByte f).toNat = f.kind.toNat := by simp [kindByte]; omega
  have addr : (addrByte f).toNat = f.addr.toNat := by simp [addrByte]; omega
  have e_free : (endPartial p s).holding = false := (endPartial_holding p s).trans free
  rw [frameCharacters_eq]
  simp only [List.length_cons, List.map_cons, List.map_map, List.cons_append, List.length_map]
  have running : ∀ x q, (((endPartial p s).setFramer p x).awaiting q).holding = false := fun x q => by
    show ((endPartial p s).setFramer p x).holding = false
    rwa [holding_setFramer]
  refine (run_character_awaiting (v := (endPartial p s).setFramer p (.address (kindByte f))) (fun q => ?_) _).trans ?_
  · unfold character
    rw [if_neg (by show ¬ s.holding = true; rw [free]; decide)]
    exact (startCharacter_eq p _ (s.awaiting q)).trans (by rw [endPartial_awaiting, setFramer_awaiting])
  refine (run_character_awaiting (v := (endPartial p s).setFramer p (.length (kindByte f) (addrByte f)))
    (fun q => ?_) _).trans ?_
  · rw [character_continuation (running _ q), continuation_of_address (by rw [framer_awaiting, framer_setFramer]),
      setFramer_awaiting, setFramer_setFramer]
  refine (run_character_awaiting (v := (endPartial p s).setFramer p (.body (kindByte f) (addrByte f) (lengthByte f) []))
    (fun q => ?_) _).trans ?_
  · rw [character_continuation (running _ q), continuation_of_length (by rw [framer_awaiting, framer_setFramer]),
      if_pos (by rw [length]; exact len), setFramer_awaiting, setFramer_setFramer]
  refine (run_body e_free rest (f.payload ++ wordBytes (check (checkedBytes f))) (by simp [wordBytes]) (by
    simp [wordBytes, length])).trans ?_
  rw [List.nil_append, wordBytes, frameComplete_eq p _ _ _ length.symm, if_pos]
  · rw [setFramer_eq_self (endPartial_framer p s), frameArrives_of_not_holding (s := s.awaiting rest) free, endPartial_awaiting]
    congr 3
    cases f
    simp [kindByte, addrByte]
  · refine ⟨?_, by rw [kind]; exact f.kind.isLt, by rw [addr]; exact f.addr.isLt⟩
    rw [← wordBytes_eq_twoBytes]
    rfl

/-- A port whose framer is Hunting has no partial frame to end. -/
theorem endPartial_of_hunting (h : s.framer p = .hunting) : endPartial p s = s := by rw [endPartial, h]

theorem frameArrives_of_hunting (free : s.holding = false) (h : s.framer p = .hunting) (f : Frame) :
    frameArrives p f s = settle (route p f s) := by
  rw [frameArrives_of_not_holding free, endPartial_of_hunting h]

theorem entryBytes_eq (es : List ReportEntry) :
    entryBytes es = (es.map fun r => r.element :: twoBytes r.value.toNat).flatten := by
  simp only [entryBytes, wordBytes_eq_twoBytes]

/-- Settles O6: the framer takes the characters of a frame one after the other to its completion. -/
theorem charactersMakeTheFrame : Obligations.CharactersMakeTheFrame := by
  refine ⟨fun f rest s free len => ⟨run_frameCharacters f rest free len .surface, run_frameCharacters f rest free len .console⟩,
    fun f => ⟨_, _, rfl, rfl, rfl⟩, fun b mark => rfl,
    fun f s free => ⟨fun hunting => congrArg _ (frameArrives_of_hunting (p := .surface) free hunting f),
      fun hunting => congrArg _ (frameArrives_of_hunting (p := .console) free hunting f)⟩,
    fun a es x y z args f s => ⟨?_, rfl, rfl, rfl, rfl, rfl, rfl, rfl⟩⟩
  rw [← entryBytes_eq]
  rfl

/-! ## The held block -/

/-- Settles O7: each command of a receive line first asks whether the block is held. -/
theorem heldBlockIgnoresItsLines : Obligations.HeldBlockIgnoresItsLines := by
  refine ⟨fun c s received held => ?_, fun s => ?_⟩
  · have frame : ∀ p f, frameArrives p f s = s := fun p f => if_pos held
    cases c with
    | malformedFrame p => exact congrArg Host.Outcome.next (if_pos held)
    | characterEvent p e => exact congrArg Host.Outcome.next (if_pos held)
    | elementReport | sweepEnd | passThrough | misaddressed | request | serviceDone | indicator | pace | forwardedFrame
    | readStatus | readSettings | writeSettings | readModule | writeModule | readElement | writeElement | readLane
    | writeLane | readProfile | writeProfile | readCounters | coldRequest | warmRequest | captureControl | captureRead =>
      exact congrArg Host.Outcome.next (frame _ _)
    | _ => cases received
  · simp [State.holding, or_comm]

end Sys2Proof.Machine

/-! # Frames discarded, carried and watched (O8 to O11) -/

namespace Sys2Proof.Machine

variable {s t e : State} {p : Port} {f : Frame}

/-! ## The routing of a frame, case by case -/

/-- A whole frame is routed once the partial one is ended. -/
theorem frameArrives_eq {u : State} (free : s.holding = false) (he : e = endPartial p s) (routed : route p f e = u) :
    Host.Outcome.next (φ := Fault) (ρ := Refusal) (frameArrives p f s) = .next (settle u) := by
  rw [frameArrives_of_not_holding free, ← he, routed]

theorem route_of_long (long : 240 < f.payload.length) (p : Port) (s : State) : route p f s = s.countFrameError p :=
  if_neg (by simp only [Config.maxPayload]; omega)

theorem route_surface (len : f.payload.length ≤ 240) (s : State) : route .surface f s = routeSurface f s := if_pos len

theorem route_console (len : f.payload.length ≤ 240) (s : State) :
    route .console f s = if f.addr = 63 then routeOwn f s else routeChain f s := if_pos len

theorem moduleOf_eq_none_iff (a : BitVec 6) : moduleOf a = none ↔ a = 0 ∨ a = 63 := by
  unfold moduleOf moduleOfNat
  split
  · rename_i range
    simp only [reduceCtorEq, false_iff, not_or]
    constructor <;> rintro rfl <;> simp at range
  · rename_i range
    simp only [true_iff]
    bv_omega

theorem not_isModuleAddr_iff (a : BitVec 6) : isModuleAddr a = false ↔ moduleOf a = none := by
  rw [moduleOf_eq_none_iff]
  simp only [isModuleAddr, Bool.and_eq_false_iff, decide_eq_false_iff_not]
  bv_omega

/-- A frame of R7 or R9's wrong address is counted in Misaddressed and goes nowhere. -/
theorem route_of_misaddressed (h : f.isMisaddressed p = true) (s : State) : route p f s = s.countMisaddressed := by
  simp only [Frame.isMisaddressed, Frame.fits, Bool.and_eq_true, decide_eq_true_eq] at h
  obtain ⟨len, h⟩ := h
  cases p with
  | surface =>
    simp only [Bool.and_eq_true, Bool.or_eq_true, beq_iff_eq, Bool.not_eq_true'] at h
    rw [route_surface len, routeSurface, if_pos h.1, (not_isModuleAddr_iff _).mp h.2]
  | console =>
    simp only [Bool.and_eq_true, beq_iff_eq, Bool.not_eq_true', Bool.or_eq_false_iff, beq_eq_false_iff_ne] at h
    rw [route_console len, if_pos h.1, routeOwn, if_neg h.2.1, if_neg h.2.2]

/-- A frame of the surface port that does not fit its kind is malformed (R8). -/
theorem route_of_misfitsSurface {m : ModuleIx} (misfits : f.misfitsSurface) (len : f.payload.length ≤ 240)
    (addr : moduleOf f.addr = some m) (on : (s.module m).entry.enabled = true) :
    route .surface f s = s.countFrameError .surface := by
  have kinds : f.kind = 1 ∨ f.kind = 2 := misfits.imp And.left And.left
  rw [route_surface len, routeSurface, if_pos kinds, addr]
  dsimp only
  rw [if_pos on, assemble]
  rcases misfits with ⟨kind, length⟩ | ⟨kind, length⟩
  · rw [if_pos kind, if_neg]
    simpa [reportFits, and_assoc] using length
  · rw [if_neg (by rw [kind]; decide)]
    split
    · rename_i payload
      rw [payload] at length
      exact absurd rfl length
    · rfl

/-- A frame of the console port that does not fit its kind is malformed (R10). -/
theorem route_of_misfitsConsole (misfits : f.misfitsConsole) (len : f.payload.length ≤ 240) (s : State) :
    route .console f s = s.countFrameError .console := by
  rw [route_console len]
  rcases misfits with ⟨kind, addr, short⟩ | ⟨kind, addr, lane⟩ | ⟨kind, addr, fits⟩ | ⟨kind, addr, fits⟩
  · rw [if_pos addr, routeOwn, if_pos kind]
    split
    · rename_i payload
      rw [payload, List.length_cons, List.length_cons] at short
      omega
    · rfl
  · rw [if_pos addr, routeOwn, if_neg (by rw [kind]; decide), if_pos kind]
    split
    · rename_i l payload
      split
      · rename_i k hk
        refine absurd ⟨l, payload, ?_⟩ lane
        unfold laneOf at hk
        split at hk
        · omega
        · cases hk
      · rfl
    · rfl
  · rw [if_neg addr, routeChain, if_pos kind]
    split
    · rename_i n mode payload
      rw [if_neg fun range => fits ⟨n, mode, payload, range⟩]
    · rfl
  · rw [if_neg (by rw [addr]; decide), routeChain, if_neg (by rw [kind]; decide), if_pos ⟨kind, addr⟩]
    split
    · rename_i x payload
      rw [if_neg fun range => fits ⟨x, payload, range⟩]
    · rfl

theorem exec_passThrough_misfit {m : ModuleIx} (free : s.holding = false) (he : e = endPartial .surface s)
    (h : f.misfitsSurface ∧ moduleOf f.addr = some m ∧ (s.module m).entry.enabled = true ∨ 240 < f.payload.length) :
    exec (.passThrough f) s = .next (settle (e.countFrameError .surface)) := by
  refine frameArrives_eq free he ?_
  by_cases len : f.payload.length ≤ 240
  · obtain ⟨misfits, addr, on⟩ := h.resolve_right (by omega)
    refine route_of_misfitsSurface misfits len addr ?_
    rwa [he, State.module_congr (endPartial_modules .surface s)]
  · exact route_of_long (by omega) _ _

theorem exec_forwardedFrame_misfit (free : s.holding = false) (he : e = endPartial .console s)
    (h : f.misfitsConsole ∨ 240 < f.payload.length) :
    exec (.forwardedFrame f) s = .next (settle (e.countFrameError .console)) := by
  refine frameArrives_eq free he ?_
  by_cases len : f.payload.length ≤ 240
  · exact route_of_misfitsConsole (h.resolve_right (by omega)) len e
  · exact route_of_long (by omega) _ _

theorem length_entryBytes (es : List ReportEntry) : (entryBytes es).length = 3 * es.length := by
  induction es with
  | nil => rfl
  | cons r es ih =>
    have step : entryBytes (r :: es) = r.element :: wordBytes r.value ++ entryBytes es := rfl
    rw [step, List.length_append, ih, List.length_cons]
    simp [wordBytes]
    omega

theorem endPartial_eq (p : Port) (s : State) :
    endPartial p s = if s.framer p = .hunting then s else (s.countFrameError p).setFramer p .hunting := by
  split
  · exact endPartial_of_hunting ‹_›
  · unfold endPartial
    split
    · exact absurd ‹s.framer p = .hunting› ‹_›
    · rfl

/-- Settles O8: a malformed frame, a frame of the wrong address and one that does not fit its kind, port by port. -/
theorem discardedFramesAreCounted : Obligations.DiscardedFramesAreCounted := by
  refine ⟨fun s free => ?_, fun p f s e free misaddressed he => ?_, fun s => ⟨rfl, rfl, endPartial_eq .surface s,
    endPartial_eq .console s⟩, fun f s e free he h => ?_, fun f s e free he h => exec_forwardedFrame_misfit free he h,
    fun a es m s e free he addr on bad => ?_, fun a x y args s e free he => ⟨fun away bad => ?_, fun bad => ?_, fun bad => ?_⟩⟩
  · have run : ∀ p, exec (.malformedFrame p) s = .next ((s.countFrameError p).setFramer p .hunting) := fun p =>
      congrArg Host.Outcome.next (if_neg (by rw [free]; decide))
    exact ⟨run .surface, run .console⟩
  · cases p <;> exact frameArrives_eq free he (route_of_misaddressed misaddressed e)
  · rcases h with ⟨misfits, m, addr, on⟩ | long
    · exact exec_passThrough_misfit free he (.inl ⟨misfits, addr, on⟩)
    · exact exec_passThrough_misfit (m := 0) free he (.inr long)
  · refine exec_passThrough_misfit (m := m) (f := ⟨1, a, entryBytes es⟩) free he ?_
    have length : (entryBytes es).length = 3 * es.length := length_entryBytes es
    rcases bad with rfl | many
    · exact .inl ⟨.inl ⟨rfl, by rintro ⟨-, h, -⟩; simp [entryBytes] at h⟩, addr, on⟩
    · exact .inr (by show 240 < (entryBytes es).length; omega)
  · refine exec_forwardedFrame_misfit (f := ⟨5, a, [x, y]⟩) free he (.inl (.inr (.inr (.inl ⟨rfl, away, ?_⟩))))
    rintro ⟨n, mode, payload, range⟩
    cases payload
    omega
  · refine exec_forwardedFrame_misfit (f := ⟨6, 0, [x]⟩) free he (.inl (.inr (.inr (.inr ⟨rfl, rfl, ?_⟩))))
    rintro ⟨q, payload, range⟩
    cases payload
    omega
  · refine exec_forwardedFrame_misfit (f := ⟨8, 63, x :: y :: args⟩) free he (.inr ?_)
    simp only [List.length_cons]
    omega

/-! ## Carried frames -/

theorem passFrame_eq (f : Frame) (s : State) : passFrame f s =
    if s.passQueue.length < 16 then { s with passQueue := s.passQueue ++ [f] }
    else { s with counters := { s.counters with passDrops :=
      if s.counters.passDrops < 65535 then s.counters.passDrops + 1 else s.counters.passDrops } } := rfl

theorem mergeFrame_of_room (h : s.forwardedCount < 28 ∧ s.outbound.length < 32) (f : Frame) :
    mergeFrame f s = s.pushOut f true := if_pos ((s.acceptsForwarded_iff).mpr h)

theorem not_acceptsForwarded (h : 28 ≤ s.forwardedCount ∨ 32 ≤ s.outbound.length) : ¬ s.acceptsForwarded = true := by
  rw [State.acceptsForwarded_iff]; omega

theorem countOutboundDrop_eq (s : State) : s.countOutboundDrop = { s with counters := { s.counters with outboundDrops :=
    if s.counters.outboundDrops < 65535 then s.counters.outboundDrops + 1 else s.counters.outboundDrops } } := rfl

theorem route_of_passed (len : f.payload.length ≤ 240) (h : (f.kind ≠ 1 ∧ f.kind ≠ 2) ∨
    ∃ m, moduleOf f.addr = some m ∧ (s.module m).entry.enabled = false) : route .surface f s = passFrame f s := by
  rw [route_surface len, routeSurface]
  by_cases kinds : f.kind = 1 ∨ f.kind = 2
  · obtain ⟨m, addr, off⟩ := h.resolve_left fun h => kinds.elim h.1 h.2
    rw [if_pos kinds, addr]
    exact if_neg (by rw [off]; decide)
  · exact if_neg kinds

theorem route_of_forwarded (h : f.isForwarded = true) (s : State) : route .console f s = mergeFrame f s := by
  simp only [Frame.isForwarded, Frame.fits, Bool.and_eq_true, decide_eq_true_eq, bne_iff_ne, Bool.not_eq_true'] at h
  obtain ⟨⟨⟨len, addr⟩, kind⟩, pace⟩ := h
  rw [route_console len, if_neg addr, routeChain, if_neg kind, if_neg]
  rintro ⟨k, a⟩
  simp [k, a] at pace

/-- Settles O9: a frame the sweep assembler does not consume, and one the merger does not watch. -/
theorem carriedFramesAreQueuedOrDropped : Obligations.CarriedFramesAreQueuedOrDropped := by
  refine ⟨fun f s e free len he h => ?_, fun f s e free forwarded he => ?_⟩
  · refine (frameArrives_eq free he (route_of_passed len ?_)).trans rfl
    rw [he]
    simpa only [State.module_congr (endPartial_modules .surface s)] using h
  · refine frameArrives_eq free he ((route_of_forwarded forwarded e).trans ?_)
    split
    · exact mergeFrame_of_room ‹_› f
    · rename_i refused
      exact if_neg (not_acceptsForwarded (by unfold State.forwardedCount; omega))

/-! ## Watched Indicators -/

theorem reaches_iff (a : BitVec 6) (m : ModuleIx) : reaches a m = true ↔ a = 0 ∨ a.toNat = m.val + 1 := by
  have bits : (BitVec.ofNat 6 (m.val + 1)).toNat = m.val + 1 := by
    rw [BitVec.toNat_ofNat]; have := m.isLt; omega
  simp only [reaches, ModuleIx.bits, Bool.or_eq_true, beq_iff_eq]
  rw [← BitVec.toNat_inj (x := a) (y := BitVec.ofNat 6 (m.val + 1)), bits]

/-- The keys that an Indicator frame matches (R137). -/
theorem State.matchesIndicator_iff (s : State) (a : BitVec 6) (n i : Nat) (c : Control) :
    s.matchesIndicator a n i c = true ↔ ∃ p k x m, c = .key p k ∧ p.echo = some x ∧ x.val = n ∧ s.bound i = some m ∧
      (a = 0 ∨ a.toNat = m.val + 1) := by
  unfold State.matchesIndicator
  split
  · rename_i p k
    split
    · rename_i x m lamp bound
      simp only [Bool.and_eq_true, beq_iff_eq, reaches_iff]
      constructor
      · rintro ⟨number, reach⟩
        exact ⟨p, k, x, m, rfl, lamp, number, bound, reach⟩
      · rintro ⟨p', k', x', m', same, lamp', number, bound', reach⟩
        cases same
        rw [lamp] at lamp'; cases lamp'
        rw [bound] at bound'; cases bound'
        exact ⟨number, reach⟩
    · rename_i none_
      simp only [Bool.false_eq_true, false_iff]
      rintro ⟨p', k', x', m', same, lamp', number, bound', reach⟩
      cases same
      exact none_ x' m' lamp' bound'
  · rename_i other
    simp only [Bool.false_eq_true, false_iff]
    rintro ⟨p', k', x', m', same, -⟩
    exact other p' k' same

theorem watchedKey_key (on : Bool) (q : KeyParams) (c : KeyCtx) : watchedKey on (.key q c) = .key q { c with
    echoBit := on, echoPending := false, latched := match q.echoMode with | .latch => on | .follow => c.latched } := by
  cases q with
  | mk down up mode profile echo echoMode => cases echoMode <;> rfl

/-- A frame that is queued and watched, in the terms of the statements (R137). -/
theorem watched_watchIndicator (s : State) (f : Frame) (b : Bool) (a : BitVec 6) (n : Nat) (on : Bool) (x : Option Nat) :
    s.watched (watchIndicator a n on x (s.pushOut f b)) ⟨f, b⟩ a n on x := by
  refine ⟨rfl, fun i => ⟨fun q c m key lamp bound reach other => ?_, fun unmatched => ?_⟩⟩
  · obtain ⟨k, echo, number⟩ := lamp
    have hit : (s.pushOut f b).matchesIndicator a n i (.key q c) = true :=
      (State.matchesIndicator_iff _ _ _ _ _).mpr ⟨q, c, k, m, rfl, echo, number, bound, reach⟩
    have control : ((s.pushOut f b).element i).control = .key q c := key
    rw [watchIndicator_element, control, if_pos ⟨other, hit⟩, watchedKey_key]
    rfl
  · rw [watchIndicator_element, if_neg]
    · rfl
    · rintro ⟨other, hit⟩
      obtain ⟨q, c, k, m, key, echo, number, bound, reach⟩ := (State.matchesIndicator_iff _ _ _ _ _).mp hit
      exact unmatched ⟨q, c, m, k, key, echo, number, bound, reach, other⟩

theorem route_of_indicator {a : BitVec 6} {n mode : Byte} (away : a ≠ 63) (hn : n.toNat ≤ 63) (hm : mode.toNat ≤ 3) (s : State) :
    route .console ⟨5, a, [n, mode]⟩ s = mergeIndicator ⟨5, a, [n, mode]⟩ n mode s := by
  rw [route_console (by simp), if_neg away, routeChain, if_pos rfl]
  exact if_pos ⟨hn, hm⟩

/-- Settles O10: an Indicator is taken where the queue accepts it, and then watched. -/
theorem consoleIndicatorIsWatched : Obligations.ConsoleIndicatorIsWatched := by
  refine ⟨fun a n mode s e free away hn hm he => ⟨fun refused => ?_, fun forwarded room => ?_⟩, fun _ => rfl⟩
  · exact frameArrives_eq free he ((route_of_indicator away hn hm e).trans (if_neg (not_acceptsForwarded refused)))
  · refine ⟨watchIndicator a n.toNat (mode != 0) none (e.pushOut ⟨5, a, [n, mode]⟩ true), ?_,
      watched_watchIndicator e _ _ _ _ _ _⟩
    exact frameArrives_eq free he ((route_of_indicator away hn hm e).trans
      (if_pos ((State.acceptsForwarded_iff e).mpr ⟨forwarded, room⟩)))

/-! ## Watched Paces -/

theorem route_of_pace {x : Byte} (hx : x.toNat ≤ 1) (s : State) :
    route .console ⟨6, 0, [x]⟩ s = mergePace ⟨6, 0, [x]⟩ x s := by
  have own : (0 : BitVec 6) ≠ 63 := by decide
  have indicator : (6 : BitVec 4) ≠ 5 := by decide
  rw [route_console (by simp), if_neg own, routeChain, if_neg indicator, if_pos ⟨rfl, rfl⟩]
  exact if_pos hx

theorem mapAll_eq_ofFn {α β : Type} {n : Nat} (f : α → β) (v : Vector α n) : mapAll f v = Vector.ofFn fun i => f v[i] := rfl

/-- The chain pace takes a value; a change to Slow changes the pace views (R32, R140). -/
theorem setChainPace_eq (slow : Prop) [Decidable slow] (s : State) :
    setChainPace (if slow then .slow else .brisk) s = { s with
      chainPace := if slow then .slow else .brisk
      modules := if slow ∧ s.chainPace = .brisk then Vector.ofFn fun m => { s.module m with
          paceView := .slow
          watchdog := if (s.module m).paceView = .brisk ∧ (s.module m).state = .active then some s.settings.slowTimeout
            else (s.module m).watchdog }
        else s.modules } := by
  cases s with
  | mk settings profiles lanes modules elements sf cf counters pauseIn rx det pr tx burst pass lost stack out sending pace =>
    by_cases h : slow <;> cases pace <;> (simp [setChainPace, h]; try rfl)

/-- Settles O11: a Pace frame is taken where the queue accepts it, and then watched. -/
theorem consolePaceIsWatched : Obligations.ConsolePaceIsWatched := by
  refine fun x s e free hx he => ⟨fun refused => ?_, fun forwarded room => ?_⟩
  · exact frameArrives_eq free he ((route_of_pace hx e).trans (if_neg (not_acceptsForwarded refused)))
  · refine frameArrives_eq free he ((route_of_pace hx e).trans
      ((if_pos ((State.acceptsForwarded_iff e).mpr ⟨forwarded, room⟩)).trans ?_))
    have pace : (if x = 0 then Pace.brisk else .slow) = if x ≠ 0 then .slow else .brisk := by
      by_cases h : x = 0 <;> simp [h]
    rw [pace, setChainPace_eq]
    rfl

end Sys2Proof.Machine

/-! # Requests on the tables and the capture ring (O13, O14, O15, O22, O51) -/

namespace Sys2Proof.Machine

variable {s e u : State} {tag code : Byte} {args : List Byte} {a : Answer}

/-! ## A request alone in its queue -/

theorem restartForm_of_code {w : Bool} (h : code ≠ 13) : (Request.mk tag code args w).restartForm = none := by
  have other : code.toNat ≠ 13 := fun e => h (BitVec.eq_of_toNat_eq e)
  simp [Request.restartForm, other]

theorem State.managementIdle.of_endPartial (idle : s.managementIdle) (he : e = endPartial .console s) : e.managementIdle := by
  obtain ⟨free, empty, ready, room⟩ := idle
  subst he
  exact ⟨by rw [endPartial_holding, free], by rw [endPartial_requests, empty], by rw [endPartial_head, ready],
    by rwa [endPartial_replies]⟩

/-- A request that finds the management unit idle is carried out and answered at once (R145 to R147). -/
theorem exec_request_answered (idle : s.managementIdle) (he : e = endPartial .console s) (len : args.length ≤ 238)
    (plain : (Request.mk tag code args false).restartForm = none)
    (carried : carryOut ⟨tag, code, args, false⟩ e = answer ⟨tag, code, args, false⟩ a u)
    (wires : u.wires = e.wires) (head : u.head = e.head) :
    exec (.request tag code args) s = .next (settle (u.replied tag code a)) := by
  obtain ⟨free, empty, ready, room⟩ := idle.of_endPartial he
  have arrival : exec (.request tag code args) s = .next (settle { e with requests := [⟨tag, code, args, false⟩] }) := by
    subst he
    exact congrArg Host.Outcome.next (requestFrame_joins idle.1 len plain idle.2.1)
  have queued : carryOut ⟨tag, code, args, false⟩ { e with requests := [⟨tag, code, args, false⟩] } =
      answer ⟨tag, code, args, false⟩ a { u with requests := [⟨tag, code, args, false⟩] } := by
    have alone := carryOut_withQueues plain e ([⟨tag, code, args, false⟩], e.replies)
    rw [carried] at alone
    refine alone.trans ?_
    rw [← State.replies_of_wires wires]
    rfl
  rw [arrival, settle_request free ready queued ((State.holding_of_wires wires).trans free)
    (by rwa [State.replies_of_wires wires])]
  rw [State.replied, ← (State.requests_of_wires wires).trans empty, ← head.trans ready]

/-- A request that leaves everything but its answer. -/
theorem exec_request_kept (idle : s.managementIdle) (he : e = endPartial .console s) (len : args.length ≤ 238)
    (other : code ≠ 13) (carried : carryOut ⟨tag, code, args, false⟩ e = answer ⟨tag, code, args, false⟩ a e) :
    exec (.request tag code args) s = .next (settle (e.replied tag code a)) :=
  exec_request_answered idle he len (restartForm_of_code other) carried rfl rfl

theorem paceByte_eq (x : Pace) : x.byte = if x = .brisk then 0 else 1 := by cases x <;> rfl

theorem twoBytes_eq (n : Nat) : natBytes n = twoBytes n := natBytes_eq n

/-! ## Status and settings -/

theorem statusBytes_eq (r : Request) (s : State) : statusBytes r s = s.statusData r.waited := rfl

/-- Settles O13: the reply of a request alone, and of one that waited. -/
theorem readStatusAnswers : Obligations.ReadStatusAnswers := by
  refine ⟨fun tag s e idle he => exec_request_kept idle he (by simp) (by decide) ?_,
    fun tag waited rest s free ready requests => ⟨fun room => ?_, fun full => ?_⟩⟩
  · rw [carryOut_readStatus]; rfl
  all_goals
    have executed := settle_of_due (dueStep_of_ready free ready requests)
    rw [carryOut_readStatus] at executed
  · refine executed.trans ((settle_of_due (dueStep_of_awaiting (s := readStatus ⟨tag, 1, [], waited⟩ s)
      (r := ⟨tag, 1, .done (s.statusData waited)⟩) free rfl room)).trans (congrArg settle ?_))
    show { s with replies := _, requests := s.requests.tail, head := _ } = _
    rw [requests, State.replied, ready]
    rfl
  · exact executed

theorem settings_bytes_eq (x : Settings) : x.bytes = twoBytes x.briskTimeout ++ twoBytes x.slowTimeout ++
    [BitVec.ofNat 8 x.quiet, BitVec.ofNat 8 x.ceiling, BitVec.ofNat 8 x.burst] := by
  simp only [Settings.bytes, twoBytes_eq]

theorem profile_bytes_eq (x : Profile) :
    x.bytes = twoBytes x.delay ++ twoBytes x.interval ++ [BitVec.ofNat 8 x.limit] := by
  simp only [Profile.bytes, twoBytes_eq]

theorem laneOf_of_lt {n : Nat} (k : Fin 8) (h : n = k.val) : laneOf n = some k := by
  subst h; exact dif_pos k.isLt

theorem laneOf_of_gt {n : Nat} (h : 7 < n) : laneOf n = none := dif_neg (by omega)

theorem carryOut_writeSettings_eq (brisk slow : Word) (quiet ceiling burst : Byte) (w : Bool) (s : State) :
    carryOut ⟨tag, 3, wordBytes brisk ++ wordBytes slow ++ [quiet, ceiling, burst], w⟩ s =
      match settingsOf brisk slow quiet ceiling burst with
      | some x => done ⟨tag, 3, wordBytes brisk ++ wordBytes slow ++ [quiet, ceiling, burst], w⟩ { s with settings := x }
      | none => refuse ⟨tag, 3, wordBytes brisk ++ wordBytes slow ++ [quiet, ceiling, burst], w⟩ .badArgument s := by
  rw [carryOut_writeSettings]
  simp only [writeSettings, wordBytes, List.cons_append, List.nil_append, wordOf_hiByte_loByte] <;> rfl

theorem carryOut_writeProfile_eq (p : Byte) (delay interval : Word) (limit : Byte) (w : Bool) (s : State) :
    carryOut ⟨tag, 11, [p] ++ wordBytes delay ++ wordBytes interval ++ [limit], w⟩ s =
      match laneOf p.toNat, profileOf delay interval limit with
      | some k, some x => done ⟨tag, 11, [p] ++ wordBytes delay ++ wordBytes interval ++ [limit], w⟩
          { s with profiles := s.profiles.set k x }
      | _, _ => refuse ⟨tag, 11, [p] ++ wordBytes delay ++ wordBytes interval ++ [limit], w⟩ .badArgument s := by
  rw [carryOut_writeProfile]
  simp only [writeProfile, wordBytes, List.cons_append, List.nil_append, wordOf_hiByte_loByte] <;> rfl

/-- Settles O14: a record is read as it stands, and written whole or not at all. -/
theorem settingsAndProfilesAreReadAndWritten : Obligations.SettingsAndProfilesAreReadAndWritten := by
  refine ⟨fun tag s e idle he => ⟨?_, fun brisk slow quiet ceiling burst => ?_⟩,
    fun tag p s e idle he => ⟨fun k hk => ⟨?_, fun delay interval limit => ?_⟩, fun high => ⟨?_, fun delay interval limit => ?_⟩⟩⟩
  · refine exec_request_kept idle he (by simp) (by decide) ?_
    rw [carryOut_readSettings, ← settings_bytes_eq]
    rfl
  · have carried := carryOut_writeSettings_eq (tag := tag) brisk slow quiet ceiling burst false e
    unfold settingsOf at carried
    split
    · rw [if_pos ‹_›] at carried
      exact exec_request_answered (code := 3) idle he (by simp [wordBytes]) (restartForm_of_code (by decide)) carried rfl rfl
    · rw [if_neg ‹_›] at carried
      exact exec_request_kept (code := 3) idle he (by simp [wordBytes]) (by decide) carried
  · refine exec_request_kept idle he (by simp) (by decide) ?_
    rw [carryOut_readProfile, ← profile_bytes_eq]
    simp only [readProfile, laneOf_of_lt k hk]
  · have carried := carryOut_writeProfile_eq (tag := tag) p delay interval limit false e
    have range : delay ≠ 0 ∧ interval ≠ 0 ↔ 1 ≤ delay.toNat ∧ 1 ≤ interval.toNat := by bv_omega
    unfold profileOf at carried
    rw [laneOf_of_lt k hk] at carried
    by_cases inside : 1 ≤ delay.toNat ∧ 1 ≤ interval.toNat
    · rw [if_pos inside] at carried
      exact (exec_request_answered (code := 11) idle he (by simp [wordBytes]) (restartForm_of_code (by decide)) carried rfl
        rfl).trans (by rw [if_pos (range.mpr inside)])
    · rw [if_neg inside] at carried
      exact (exec_request_kept (code := 11) idle he (by simp [wordBytes]) (by decide) carried).trans
        (by rw [if_neg fun h => inside (range.mp h)])
  · refine exec_request_kept idle he (by simp) (by decide) ?_
    rw [carryOut_readProfile]
    simp only [readProfile, laneOf_of_gt high]
    rfl
  · have carried := carryOut_writeProfile_eq (tag := tag) p delay interval limit false e
    rw [laneOf_of_gt high] at carried
    exact exec_request_kept (code := 11) idle he (by simp [wordBytes]) (by decide) carried

/-! ## Lanes -/

theorem laneEntry_bytes_eq (x : LaneEntry) : x.bytes = [BitVec.ofNat 8 x.priority, if x.masked then 1 else 0,
    if x.mode = .held then 1 else 0, if x.urgent then 1 else 0, BitVec.ofNat 8 x.quota] ++ twoBytes x.limit := by
  rcases x with ⟨priority, masked, mode, urgent, quota, limit⟩
  cases mode <;> simp [LaneEntry.bytes, twoBytes_eq, flagByte]

theorem carryOut_writeLane_eq (l priority masked mode urgent quota : Byte) (limit : Word) (w : Bool) (s : State) :
    carryOut ⟨tag, 9, [l, priority, masked, mode, urgent, quota] ++ wordBytes limit, w⟩ s =
      match laneOf l.toNat, laneEntryOf priority masked mode urgent quota limit with
      | some k, some x => done ⟨tag, 9, [l, priority, masked, mode, urgent, quota] ++ wordBytes limit, w⟩ (writeLaneEntry k x s)
      | _, _ => refuse ⟨tag, 9, [l, priority, masked, mode, urgent, quota] ++ wordBytes limit, w⟩ .badArgument s := by
  rw [carryOut_writeLane]
  simp only [writeLane, wordBytes, List.cons_append, List.nil_append, wordOf_hiByte_loByte] <;> rfl

theorem writeLaneEntry_wires (k : Fin 8) (x : LaneEntry) (s : State) : (writeLaneEntry k x s).wires = s.wires := by
  unfold writeLaneEntry
  dsimp only
  split
  · exact (State.wires_of_desk (servicePass_desk _)).trans rfl
  · rfl

theorem writeLaneEntry_head (k : Fin 8) (x : LaneEntry) (s : State) : (writeLaneEntry k x s).head = s.head := by
  unfold writeLaneEntry
  dsimp only
  split
  · exact (State.head_of_desk (servicePass_desk _)).trans rfl
  · rfl

/-- Settles O15: a lane's entry is read as it stands, and written whole or not at all. -/
theorem lanesAreReadAndWritten : Obligations.LanesAreReadAndWritten := by
  refine ⟨fun tag l s e idle he => ⟨fun k hk => ⟨?_, fun priority masked mode urgent quota limit w hw => ?_⟩,
    fun high => ⟨?_, fun priority masked mode urgent quota limit => ?_⟩⟩, fun _ _ _ => ⟨rfl, rfl⟩⟩
  · refine exec_request_kept idle he (by simp) (by decide) ?_
    rw [carryOut_readLane, ← laneEntry_bytes_eq]
    simp only [readLane, laneOf_of_lt k hk]
  · have carried := carryOut_writeLane_eq (tag := tag) l priority masked mode urgent quota limit false e
    unfold laneEntryOf at carried
    rw [laneOf_of_lt k hk] at carried
    split at carried
    · rename_i k' x' lane entry
      cases lane
      split at entry
      · cases entry
        rw [if_pos ‹_›, hw]
        exact (exec_request_answered (code := 9) idle he (by simp [wordBytes]) (restartForm_of_code (by decide)) carried
          (writeLaneEntry_wires _ _ _) (writeLaneEntry_head _ _ _)).trans rfl
      · cases entry
    · rename_i refused
      rw [if_neg fun inside => refused k _ rfl (if_pos inside)]
      exact exec_request_kept (code := 9) idle he (by simp [wordBytes]) (by decide) carried
  · refine exec_request_kept idle he (by simp) (by decide) ?_
    rw [carryOut_readLane]
    simp only [readLane, laneOf_of_gt high]
    rfl
  · have carried := carryOut_writeLane_eq (tag := tag) l priority masked mode urgent quota limit false e
    rw [laneOf_of_gt high] at carried
    exact exec_request_kept (code := 9) idle he (by simp [wordBytes]) (by decide) carried

/-! ## Counters -/

theorem counterBytes_eq (s : State) : counterBytes s =
    twoBytes s.counters.surfaceErrors ++ twoBytes s.counters.consoleErrors ++ twoBytes s.counters.misaddressed ++
      twoBytes s.counters.rangeErrors ++ twoBytes s.counters.discarded ++ twoBytes s.counters.passDrops ++
      twoBytes s.counters.outboundDrops ++ twoBytes s.counters.requestDrops ++ twoBytes s.capture.dropped ++
      ((List.finRange 8).map fun l => twoBytes (s.lane l).overflow).flatten := by
  simp only [counterBytes, twoBytes_eq, allLanes]

/-- Settles O22: the counters are read, and cleared in the same event where the flag asks for it. -/
theorem countersAreReadAndCleared : Obligations.CountersAreReadAndCleared := by
  intro tag clear s e data idle he hdata
  rw [← counterBytes_eq] at hdata
  have carried : carryOut ⟨tag, 12, [clear], false⟩ e =
      answer ⟨tag, 12, [clear], false⟩ (.done data) (if isYes clear then clearCounters e else e) := by
    rw [carryOut_readCounters, hdata]; rfl
  refine ⟨fun keep => ?_, fun wipe => ?_⟩
  · rw [if_neg (by simp [isYes, keep])] at carried
    exact exec_request_kept idle he (by simp) (by decide) carried
  · rw [if_pos (by simpa [isYes] using wipe)] at carried
    exact exec_request_answered idle he (by simp) (restartForm_of_code (by decide)) carried rfl rfl

/-! ## Capture requests -/

theorem moduleOfNat_eq_some_iff (n : Nat) (m : ModuleIx) : moduleOfNat n = some m ↔ n = m.val + 1 := by
  have := m.isLt
  unfold moduleOfNat
  split <;> simp [Fin.ext_iff] <;> omega

theorem moduleOfNat_of_outside {n : Nat} (h : n = 0 ∨ 62 < n) : moduleOfNat n = none := dif_neg (by omega)

theorem filterOf_eq {b : Byte} {f : Option ModuleIx} (h : b = 0 ∧ f = none ∨ ∃ m, f = some m ∧ b.toNat = m.val + 1) :
    filterOf b = some f := by
  rcases h with ⟨rfl, rfl⟩ | ⟨m, rfl, number⟩
  · rfl
  · have away : b ≠ 0 := by rintro rfl; simp at number
    rw [filterOf, if_neg away, (moduleOfNat_eq_some_iff _ _).mpr number]
    rfl

theorem filterOf_of_gt {b : Byte} (h : 62 < b.toNat) : filterOf b = none := by
  have away : b ≠ 0 := by rintro rfl; simp at h
  rw [filterOf, if_neg away, moduleOfNat_of_outside (.inr h)]
  rfl

theorem isYes_eq_false_iff (b : Byte) : isYes b = false ↔ b = 0 := by simp [isYes]

theorem captureRestart_eq (s : State) : captureRestart s = { s with
    capture := { s.capture with uncommitted := [] }
    modules := Vector.ofFn fun m => { s.module m with
      mark := if 0 < (s.module m).sweep.received then .withdrawn else .recording } } := rfl

/-- A Capture Control changes the ring and the marks, or, where it asks for what stands, nothing (R165). -/
theorem captureControl_eq (enabled clear : Bool) (f : Option ModuleIx) (s : State) : captureControl enabled f clear s =
    if clear = false ∧ enabled = s.capture.enabled ∧ f = s.capture.filter then s
    else { s with
      capture := ⟨if clear = false then s.capture.readable else [], [], enabled, f, s.capture.dropped⟩
      modules := Vector.ofFn fun m => { s.module m with
        mark := if 0 < (s.module m).sweep.received then .withdrawn else .recording } } := by
  by_cases same : clear = false ∧ enabled = s.capture.enabled ∧ f = s.capture.filter
  · obtain ⟨rfl, rfl, rfl⟩ := same
    rw [if_pos ⟨rfl, rfl, rfl⟩]
    unfold captureControl
    dsimp only
    rw [if_neg (c := (false = true)) (by decide), if_neg (by simp)]
  · rw [if_neg same]
    have changed : (clear || enabled != s.capture.enabled || f != s.capture.filter) = true := by
      simp only [Bool.or_eq_true, bne_iff_ne]
      by_contra none_
      simp only [not_or, not_not, Bool.not_eq_true] at none_
      exact same ⟨none_.1.1, none_.1.2, none_.2⟩
    unfold captureControl
    dsimp only
    rw [if_pos changed, captureRestart_eq]
    cases clear
    · rw [if_neg (c := (false = true)) (by decide), if_pos (c := (false = false)) rfl]
    · rw [if_pos (c := (true = true)) rfl, if_neg (c := (true = false)) (by decide)]
      rfl

/-- Settles O51: the entries read leave the ring, and a control that changes it sets the marks afresh. -/
theorem captureRequestsAreCarriedOut : Obligations.CaptureRequestsAreCarriedOut := by
  refine fun tag s e idle he => ⟨fun count => ?_, fun enabled filter clear high => ?_,
    fun enabled filter clear f kept hf hkept => ?_⟩
  · have carried := carryOut_captureRead tag [count] false e
    simp only [captureRead] at carried
    split
    · rw [if_pos ‹_›, List.length_take] at carried
      exact exec_request_answered idle he (by simp) (restartForm_of_code (by decide)) carried rfl rfl
    · rw [if_neg ‹_›] at carried
      exact exec_request_kept idle he (by simp) (by decide) carried
  · refine exec_request_kept idle he (by simp) (by decide) ?_
    rw [carryOut_controlCapture]
    simp only [controlCapture, filterOf_of_gt high]
    rfl
  · have carried := carryOut_controlCapture tag [enabled, filter, clear] false e
    simp only [controlCapture, filterOf_eq hf] at carried
    have result : captureControl (isYes enabled) f (isYes clear) e =
        if clear = 0 ∧ (enabled != 0) = e.capture.enabled ∧ f = e.capture.filter then e
        else { e with
          capture := ⟨kept, [], enabled != 0, f, e.capture.dropped⟩
          modules := Vector.ofFn fun m => { e.module m with
            mark := if 0 < (e.module m).sweep.received then .withdrawn else .recording } } := by
      rw [captureControl_eq, hkept]
      simp only [isYes_eq_false_iff]
      rfl
    have readable : (captureControl (isYes enabled) f (isYes clear) e).capture.readable = kept := by
      rw [result, hkept]
      split
      · rename_i same
        rw [if_pos same.1]
      · rfl
    rw [readable, twoBytes_eq] at carried
    refine (exec_request_answered idle he (by simp) (restartForm_of_code (by decide)) carried
      (State.wires_of_desk (captureControl_desk _ _ _ _)) (State.head_of_desk (captureControl_desk _ _ _ _))).trans ?_
    rw [result]

end Sys2Proof.Machine

/-! # The notice queue and the console transmitter (O26, O34, O39, O42, O44, O45, O46) -/

namespace Sys2Proof.Machine

variable {s t e : State} {i : Nat} {n : Notice}

/-! ## A notice queued, or lost -/

theorem notify_of_room (h : s.room n.lane = true) : notify n s = s.pushNotice n := if_pos h

theorem notify_of_no_room (h : s.room n.lane = false) : notify n s = noticeLost n (s.countOverflow n.lane) :=
  if_neg (by rw [h]; decide)

theorem State.room_eq_false_iff (s : State) (l : Fin 8) : s.room l = false ↔
    (s.lane l).entry.quota ≤ (s.lane l).fifo.length ∨ 128 ≤ s.queued + s.noticeInFlight := by
  rw [← Bool.not_eq_true, State.room_iff]; omega

theorem noticeLost_discarded (h : n.kind = .repeat_ ∨ n.kind = .raw) (s : State) : noticeLost n s = s.countDiscarded := by
  rcases h with h | h <;> rw [noticeLost, h]

theorem noticeLost_system (h : n.kind = .restarted ∨ n.kind = .moduleJoined ∨ n.kind = .moduleLost ∨
    n.kind = .serviceOverdue ∨ n.kind = .serviceFault) (s : State) : noticeLost n s = s.countSystemLost := by
  rcases h with h | h | h | h | h <;> rw [noticeLost, h]

theorem State.keyMode_of_key {p : KeyParams} {c : KeyCtx} (h : (s.element i).control = .key p c) :
    s.keyMode i = some p.mode := by rw [State.keyMode, h]

theorem State.setStale_of_key {p : KeyParams} {c : KeyCtx} (h : (s.element i).control = .key p c) :
    s.setStale i = s.setControl i (.key p { c with stale := true }) := by rw [State.setStale, h]

theorem State.setStale_of_level {p : LevelParams} {c : LevelCtx} (h : (s.element i).control = .level p c) :
    s.setStale i = s.setControl i (.level p { c with stale := true }) := by rw [State.setStale, h]

/-- A press or a release that is lost: the stale flag of a key in Both mode, a count in another (R102). -/
theorem noticeLost_press (h : n.kind = .press ∨ n.kind = .release) (index : n.index = some i) (s : State) :
    noticeLost n s = if s.keyMode i = some .both then s.setStale i else s.countDiscarded := by
  rcases h with h | h <;> rw [noticeLost, h] <;> simp only [index]

theorem noticeLost_state (h : n.kind = .toggle ∨ n.kind = .level ∨ n.kind = .zone) (index : n.index = some i) (s : State) :
    noticeLost n s = s.setStale i := by
  rcases h with h | h | h <;> rw [noticeLost, h] <;> simp only [index]

theorem giveNotice_of_unbound (h : s.bound i = none) (k : NoticeKind) (v : Int) (z : Option Zone) (g : Flags) :
    giveNotice i k v z g s = s := by rw [giveNotice, State.elementNotice, h]

theorem giveNotice_of_bound {m : ModuleIx} (h : s.bound i = some m) (k : NoticeKind) (v : Int) (z : Option Zone) (g : Flags) :
    giveNotice i k v z g s =
      notify ⟨k, (s.element i).lane, m.val + 1, i - (s.module m).entry.base, v, z, g, some i⟩ s := by
  rw [giveNotice, State.elementNotice_of_bound h]

theorem State.noticeInFlight_of_other (h : ∀ n, s.consoleTx ≠ some (.notice n)) : s.noticeInFlight = 0 := by
  unfold State.noticeInFlight
  split
  · exact absurd ‹_› (h _)
  · rfl

/-- Settles O39: a notice finds room, or leaves what its kind leaves. -/
theorem enqueueOrItsConsequence : Obligations.EnqueueOrItsConsequence := by
  refine ⟨fun n s f hf => ?_, fun l s => State.room_iff s l, fun i k v z g s => ⟨fun h => giveNotice_of_unbound h k v z g,
    fun m h => giveNotice_of_bound h k v z g⟩, fun _ _ _ _ => rfl, fun _ => rfl,
    fun s => ⟨rfl, fun n h => by rw [State.noticeInFlight, h], State.noticeInFlight_of_other, rfl⟩⟩
  have overflow : s.countOverflow n.lane = f := hf.symm
  refine ⟨rfl, overflow, fun quota pool => notify_of_room ((State.room_iff _ _).mpr ⟨quota, pool⟩), fun full => ?_⟩
  have lost := notify_of_no_room ((State.room_eq_false_iff s n.lane).mpr full)
  rw [overflow] at lost
  have counters : f.counters = s.counters := by rw [← overflow]; rfl
  have systemLost : f.systemLost = s.systemLost := by rw [← overflow]; rfl
  have element : ∀ i, f.element i = s.element i := fun i => by rw [← overflow]; rfl
  have discarded : f.countDiscarded = { f with counters := { s.counters with
      discarded := if s.counters.discarded < 65535 then s.counters.discarded + 1 else s.counters.discarded } } := by
    rw [← counters]; rfl
  refine ⟨fun kind => lost.trans ((noticeLost_discarded kind f).trans discarded),
    fun kind => lost.trans ((noticeLost_system kind f).trans (by rw [← systemLost]; rfl)),
    fun i p c index key => ?_, fun i p c index level kind => ?_⟩
  · rw [← element] at key
    refine ⟨fun kind mode => ?_, fun kind mode => ?_, fun kind => ?_⟩
    · rw [lost, noticeLost_press kind index, State.keyMode_of_key key, mode, if_pos rfl, State.setStale_of_key key]
    · rw [lost, noticeLost_press (.inl kind) index, State.keyMode_of_key key, mode, if_neg (by decide), discarded]
    · rw [lost, noticeLost_state (.inl kind) index, State.setStale_of_key key]
  · rw [← element] at level
    rw [lost, noticeLost_state (.inr kind) index, State.setStale_of_level level]

/-! ## The arbiter -/

/-- What the better of the lanes seen so far is: one of them, before every other (R118). -/
theorem State.foldl_better_best (s : State) : ∀ (ls : List (Fin 8)) (b l : Fin 8), (∀ k ∈ ls, b < k) → ls.Pairwise (· < ·) →
    ls.foldl s.better (some b) = some l → ∀ k, k ∈ b :: ls →
      s.priority l < s.priority k ∨ (s.priority l = s.priority k ∧ l ≤ k) := by
  intro ls
  induction ls with
  | nil =>
    rintro b l - - h k hk
    cases h
    rw [List.mem_singleton.mp hk]
    exact .inr ⟨rfl, le_refl _⟩
  | cons x xs ih =>
    intro b l below sorted h k hk
    obtain ⟨x_below, sorted⟩ := List.pairwise_cons.mp sorted
    rw [List.foldl_cons, State.better] at h
    by_cases less : s.priority x < s.priority b
    · simp only [if_pos less] at h
      rcases List.mem_cons.mp hk with rfl | hk
      · rcases ih x l x_below sorted h x List.mem_cons_self with h | h <;> omega
      · exact ih x l x_below sorted h k hk
    · simp only [if_neg less] at h
      have best := ih b l (fun k hk => below k (List.mem_cons_of_mem _ hk)) sorted h
      rcases List.mem_cons.mp hk with rfl | hk
      · exact best k List.mem_cons_self
      · rcases List.mem_cons.mp hk with rfl | hk
        · have := best b List.mem_cons_self
          have := below k List.mem_cons_self
          omega
        · exact best k (List.mem_cons_of_mem _ hk)

/-- Settles O42: the fold over the eligible lanes, which stand in rising order. -/
theorem offerIsTheBestEligibleLane : Obligations.OfferIsTheBestEligibleLane := by
  refine fun s => ⟨State.offer_eq_none_iff s, fun l h => ⟨State.eligible_of_offer h, fun k hk => ?_⟩⟩
  have sorted : (allLanes.filter s.eligible).Pairwise (· < ·) := (List.pairwise_lt_finRange 8).filter _
  have listed : k ∈ allLanes.filter s.eligible := List.mem_filter.mpr ⟨List.mem_finRange k, hk⟩
  unfold State.offer at h
  cases hs : allLanes.filter s.eligible with
  | nil => rw [hs] at listed; cases listed
  | cons b ls =>
    rw [hs] at h listed sorted
    obtain ⟨below, sorted⟩ := List.pairwise_cons.mp sorted
    exact State.foldl_better_best s ls b l below sorted h k listed

/-! ## The frame in flight -/

theorem State.setLane_lane (s : State) (l : Fin 8) : s.setLane l (s.lane l) = s := by
  simp [State.setLane, State.lane]

theorem enterService_eq (l : Fin 8) (s : State) : enterService l s = State.setLane { s with stack := s.stack ++ [l] } l
    { s.lane l with timer := if 0 < (s.lane l).entry.limit then some (s.lane l).entry.limit else (s.lane l).timer } := by
  unfold enterService
  dsimp only
  split
  · rfl
  · exact (State.setLane_lane _ l).symm

/-- Settles O44: the take, by the mode of the lane. -/
theorem takeOfANotice : Obligations.TakeOfANotice := by
  intro l s w n rest fifo hw
  rw [takeNotice, fifo]
  dsimp only
  have taken : ∀ burst, State.lane { s.setLane l { s.lane l with fifo := rest } with
      consoleTx := some (.notice n), burst := burst } l = { s.lane l with fifo := rest } :=
    fun _ => State.lane_setLane s l _
  have left : ∀ r : State, r = w → (if rest.length < (s.lane l).entry.quota then servicePass r else r) =
      if rest.length < (s.lane l).entry.quota then servicePass w else w := fun r h => by rw [h]
  refine left _ ?_
  rw [hw]
  cases mode : (s.lane l).entry.mode with
  | plain => simp [burstAfterNotice, bump]
  | held =>
    rw [enterService_eq, taken]
    simp [State.setLane, burstAfterNotice, bump]

theorem wordOfInt_toNat (v : Int) : (BitVec.ofInt 16 v).toNat = (v % 65536).toNat := by
  simp [BitVec.toNat_ofInt]

theorem notice_bytes_eq (n : Notice) : n.bytes = [n.kind.code, BitVec.ofNat 8 n.lane.val, BitVec.ofNat 8 n.module,
    BitVec.ofNat 8 n.element] ++ twoBytes (n.value % 65536).toNat ++ [zoneByte n.zone, n.flags.byte] := by
  rw [Notice.bytes, wordBytes_eq_twoBytes, wordOfInt_toNat]

theorem flags_byte_eq (f : Flags) : f.byte = BitVec.ofNat 8 ((if f.baseline then 1 else 0) + (if f.resync then 2 else 0) +
    (if f.lost then 4 else 0) + (if f.removed then 8 else 0)) := by
  rcases f with ⟨baseline, resync, lost, removed⟩
  revert baseline resync lost removed
  decide

/-- Settles O45: the frame of each kind, and the end of each. -/
theorem consoleFrameEnds : Obligations.ConsoleFrameEnds := by
  refine ⟨fun n r f => ⟨?_, ?_, rfl⟩, by decide, fun s => ⟨fun n h => ?_, fun r h => ?_, fun f h => ?_, fun h => ?_⟩⟩
  · rw [ConsoleFrame.frame, notice_bytes_eq, flags_byte_eq]
    rcases n.zone with _ | _ | _ | _ <;> rfl
  · rcases r with ⟨tag, code, data | why⟩
    · rfl
    · cases why <;> rfl
  all_goals
    refine congrArg Host.Outcome.next ?_
    rw [h]
  · exact congrArg settle (show frameSent s = _ by rw [frameSent, h])
  · exact congrArg settle (show frameSent s = _ by rw [frameSent, h])
  · exact congrArg settle (show frameSent s = _ by rw [frameSent, h])
  · rfl

/-! ## Service Done and the service timers -/

theorem leaveService_eq (l : Fin 8) (s : State) : leaveService l s =
    State.setLane { s with stack := s.stack.filter (· ≠ l) } l { s.lane l with timer := none } := by
  have other : (fun k => k != l) = fun k => decide (k ≠ l) := funext fun k => by
    by_cases h : k = l <;> simp [h]
  rw [leaveService, other]

theorem route_serviceDone {b : Byte} (s : State) : route .console ⟨9, 63, [b]⟩ s =
    match laneOf b.toNat with
    | some k => serviceDone k s
    | none => s.countFrameError .console := by
  have request : (9 : BitVec 4) ≠ 8 := by decide
  rw [route_console (by simp), if_pos rfl, routeOwn, if_neg request]
  exact if_pos rfl

theorem endPartial_lanes (p : Port) (s : State) : (endPartial p s).lanes = s.lanes := by
  rcases endPartial_cases p s with h | h <;> rw [h]
  cases p <;> rfl

theorem endPartial_stack (p : Port) (s : State) : (endPartial p s).stack = s.stack := by
  rcases endPartial_cases p s with h | h <;> rw [h]
  cases p <;> rfl

/-- Settles O46: by the place of the lane in the stack and its mark. -/
theorem serviceDoneIsAnswered : Obligations.ServiceDoneIsAnswered := by
  intro b s e free he
  have lane : ∀ l, e.lane l = s.lane l := fun l => by rw [he]; exact State.lane_congr (endPartial_lanes .console s) l
  have stack : e.stack = s.stack := by rw [he, endPartial_stack]
  have answered : ∀ u, route .console ⟨9, 63, [b]⟩ e = u → exec (.serviceDone b) s = .next (settle u) :=
    fun u => frameArrives_eq free he
  refine ⟨fun l hl => ⟨fun serving => ?_, fun idle late => ?_, fun idle early => ?_⟩, fun high => ?_⟩ <;>
    refine answered _ ?_ <;> rw [route_serviceDone]
  · rw [laneOf_of_lt l hl]
    exact (if_pos (by rwa [stack])).trans (leaveService_eq l e)
  · rw [laneOf_of_lt l hl]
    exact (if_neg (by rwa [stack])).trans (if_pos (by rwa [lane]))
  · rw [laneOf_of_lt l hl]
    exact (if_neg (by rwa [stack])).trans (if_neg (by rw [lane, early]; decide))
  · rw [laneOf_of_gt high]

theorem isDue_iff (t : Timer) : t.isDue = true ↔ t = some 0 := by simp [Timer.isDue]

/-- Settles O34: the lane leaves service, and its mark is set with the notice. -/
theorem serviceTimerExpires : Obligations.ServiceTimerExpires := by
  refine fun l s => ⟨fun due => ?_, fun idle => ?_⟩ <;> refine congrArg Host.Outcome.next ?_
  · refine (if_pos ((isDue_iff _).mpr due)).trans (congrArg settle ?_)
    rw [serviceOverdue, leaveService_eq, State.lane_setLane, State.setLane_setLane]
    rfl
  · exact if_neg fun due => idle ((isDue_iff _).mp due)

/-- Settles O26: by the definitions, with the steps due ahead of a selection taken first. -/
theorem selectionsAreMade : Obligations.SelectionsAreMade := by
  refine fun s => ⟨rfl, rfl, fun free => congrArg Host.Outcome.next (if_neg (by rw [free]; decide)), fun held => ?_⟩
  refine if_neg fun idle => ?_
  rcases held with paused | busy
  · rw [idle.2] at paused; cases paused
  · exact busy idle.1

end Sys2Proof.Machine

/-! # Keys, encoders, levels and the expiries of their timers (O32, O33, O35, O36, O38) -/

namespace Sys2Proof.Machine

variable {s t e : State} {i : Nat} {p : KeyParams} {c : KeyCtx}

/-! ## A context written and changed -/

theorem updKey_setControl (s : State) (i : Nat) (p : KeyParams) (c : KeyCtx) (f : KeyCtx → KeyCtx) :
    (s.setControl i (.key p c)).updKey i f = s.setControl i (.key p (f c)) := by
  rw [State.updKey_of_key (by rw [State.element_setControl]), State.setControl_setControl]

theorem updLevel_setControl (s : State) (i : Nat) (p : LevelParams) (c : LevelCtx) (f : LevelCtx → LevelCtx) :
    (s.setControl i (.level p c)).updLevel i f = s.setControl i (.level p (f c)) := by
  rw [State.updLevel_of_level (by rw [State.element_setControl]), State.setControl_setControl]

/-! ## Lamps -/

/-- A generated Indicator, queued and watched, in the terms of the statements (R135, R137). -/
theorem lampQueued_pushIndicator (s : State) (m : ModuleIx) (n : Fin 64) (on : Bool) (i : Nat) :
    s.lampQueued (pushIndicator m n on i s) m n on i :=
  watched_watchIndicator s (indicatorFrame m n on) false m.bits n.val on (some i)

theorem State.outboundRoom_of_full (h : 32 ≤ s.outbound.length) : ¬ s.outboundRoom = true := by
  rw [State.outboundRoom_iff]; omega

theorem requestEcho_of_room {m : ModuleIx} {n : Fin 64} (h : (s.element i).control = .key p c) (lamp : p.echo = some n)
    (bound : s.bound i = some m) (room : s.outbound.length < 32) : requestEcho i s = pushIndicator m n c.echoBit i s := by
  rw [requestEcho, h, bound]
  simp only [lamp]
  exact if_pos ((State.outboundRoom_iff s).mpr room)

theorem requestEcho_of_full {m : ModuleIx} {n : Fin 64} (h : (s.element i).control = .key p c) (lamp : p.echo = some n)
    (bound : s.bound i = some m) (full : 32 ≤ s.outbound.length) :
    requestEcho i s = s.setControl i (.key p { c with echoPending := true }) := by
  rw [requestEcho, h, bound]
  simp only [lamp]
  rw [if_neg (State.outboundRoom_of_full full), State.updKey_of_key h]

/-! ## Keys -/

theorem desired_eq (p : KeyParams) (c : KeyCtx) : desired p c = if p.echoMode = .follow then c.closed else c.latched := by
  unfold desired
  cases p.echoMode <;> rfl

theorem echoAct_of_unchanged (h : (s.element i).control = .key p c) (same : p.echo = none ∨ desired p c = c.echoBit) :
    echoAct i s = s := by
  rw [echoAct, h]
  refine if_neg fun act => ?_
  rcases same with none_ | same
  · rw [none_] at act; cases act.1
  · exact act.2 same

theorem echoAct_of_changed (h : (s.element i).control = .key p c) (lamp : p.echo ≠ none) (change : desired p c ≠ c.echoBit) :
    echoAct i s = if c.echoPending = true then s.setControl i (.key p { c with echoBit := desired p c })
      else requestEcho i (s.setControl i (.key p { c with echoBit := desired p c })) := by
  rw [echoAct, h]
  dsimp only
  rw [if_pos ⟨Option.isSome_iff_ne_none.mpr lamp, change⟩, State.updKey_of_key h]

theorem startRepeat_of_none (h : (s.element i).control = .key p c) (no_profile : p.profile = none) : startRepeat i s = s := by
  rw [startRepeat, h]
  simp only [State.profileOf, no_profile, Option.map_none]

theorem startRepeat_of_profile {pr : Fin 8} (h : (s.element i).control = .key p c) (profile : p.profile = some pr) :
    startRepeat i s = s.setControl i (.key p { c with timer := some s.profiles[pr].delay, sent := 0 }) := by
  rw [startRepeat, h]
  simp only [State.profileOf, profile, Option.map_some]
  exact State.updKey_of_key h _

theorem giveRepeat_of_profile {pr : Fin 8} {n : Nat} (h : (s.element i).control = .key p c) (profile : p.profile = some pr)
    (hn : n = if c.sent < 255 then c.sent + 1 else c.sent) :
    giveRepeat i s = (giveNotice i .repeat_ n none {}
      (s.setControl i (.key p { c with sent := n, repeatDue := false }))).updKey i fun k => { k with
        timer := if s.profiles[pr].limit ≠ 0 ∧ s.profiles[pr].limit ≤ n then none else some s.profiles[pr].interval } := by
  have count : bump Config.countTop c.sent = n := hn.symm
  rw [giveRepeat, h]
  simp only [count, State.profileOf, profile, Option.map_some, State.updKey_of_key h]
  rfl

theorem keyReport_of_same {v : Bool} (h : (s.element i).control = .key p c) (same : c.rawClosed = v) : keyReport i v s = s := by
  rw [keyReport, h]; exact if_pos same

theorem keyReport_of_change {v : Bool} (h : (s.element i).control = .key p c) (change : c.rawClosed ≠ v) (away : c.closed ≠ v) :
    keyReport i v s = s.setControl i (.key p { c with
      rawClosed := v, settle := if v = true then p.debounceDown else p.debounceUp }) := by
  rw [keyReport, h]
  dsimp only
  rw [if_neg change, if_neg away, State.updKey_of_key h]

theorem keyReport_of_bounce {v : Bool} (h : (s.element i).control = .key p c) (change : c.rawClosed ≠ v) (back : c.closed = v) :
    keyReport i v s = if v = true ∧ c.repeatDue = true then giveRepeat i (s.setControl i (.key p { c with
        rawClosed := v, settle := 0, bounce := if c.bounce < 255 then c.bounce + 1 else c.bounce }))
      else s.setControl i (.key p { c with
        rawClosed := v, settle := 0, bounce := if c.bounce < 255 then c.bounce + 1 else c.bounce }) := by
  rw [keyReport, h]
  dsimp only
  rw [if_neg change, if_pos back, State.updKey_of_key h]
  rfl

theorem debounce_of_other (h : ∀ p c, (s.element i).control ≠ .key p c) : debounce i s = s := by
  unfold debounce
  split
  · exact absurd ‹_› (h _ _)
  · rfl

/-- The debounce of a key by its accepted and raw state (R59, R61). -/
theorem debounce_of_key (h : (s.element i).control = .key p c) : debounce i s =
    if c.rawClosed = c.closed then s
    else if c.settle = 0 then (if c.closed = true then acceptRelease i s else acceptPress i s)
    else s.setControl i (.key p { c with settle := c.settle - 1 }) := by
  rw [debounce, h]
  rcases c with ⟨raw, closed, settle, latched, bounce, timer, due, sent, bit, pending, stale⟩
  cases raw <;> cases closed <;> simp only [KeyCtx.phase, State.updKey_of_key h] <;> rfl

theorem acceptPress_of_key (h : (s.element i).control = .key p c) : acceptPress i s =
    startRepeat i (echoAct i (giveNotice i (if p.mode = .toggle then .toggle else .press)
      (if p.mode = .toggle ∧ c.latched = false then 1 else 0) none {}
      (s.setControl i (.key p { c with closed := true, settle := 0, latched := !c.latched })))) := by
  rw [acceptPress, h]
  simp only [State.updKey_of_key h]
  cases mode : p.mode <;> cases latched : c.latched <;> simp

theorem acceptRelease_of_key (h : (s.element i).control = .key p c) {o r : State}
    (ho : o = s.setControl i (.key p { c with closed := false, settle := 0, timer := none, repeatDue := false }))
    (hr : r = if p.mode = .both then giveNotice i .release 0 none {} o else o) :
    acceptRelease i s = if p.echoMode = .follow then echoAct i r else r := by
  rw [acceptRelease, h, hr, ho]
  simp only [State.updKey_of_key h]
  cases p.mode <;> cases p.echoMode <;> simp

/-- Settles O35: each move of a key by the conditions of its table. -/
theorem keyFollowsItsStates : Obligations.KeyFollowsItsStates := by
  refine ⟨fun i v s p c h => ⟨keyReport_of_same h, keyReport_of_change h, fun b change back hb => ?_⟩,
    fun i s h => debounce_of_other h, fun i s p c h => ⟨fun same => ?_, fun moving waits => ?_, fun raw opened zero => ?_,
      fun o r raw closed zero ho hr => ?_⟩,
    fun i s p c h => ⟨fun d u hd hu => ⟨fun same => ?_, fun lamp change => ?_⟩, fun n m lamp bound => ⟨fun room => ?_, fun full => ?_⟩,
      startRepeat_of_none h, fun pr profile => ⟨startRepeat_of_profile h profile, fun n hn => giveRepeat_of_profile h profile hn⟩⟩⟩
  · rw [keyReport_of_bounce h change back, hb]
  · rw [debounce_of_key h, if_pos same]
  · rw [debounce_of_key h, if_neg moving, if_neg (by omega)]
  · rw [debounce_of_key h, if_neg (by rw [raw, opened]; decide), if_pos zero, if_neg (by rw [opened]; decide),
      acceptPress_of_key h]
  · rw [debounce_of_key h, if_neg (by rw [raw, closed]; decide), if_pos zero, if_pos closed, acceptRelease_of_key h ho hr]
  · rw [← desired_eq] at hd
    exact echoAct_of_unchanged h (same.imp id fun e => hd.symm.trans e)
  · rw [← desired_eq] at hd
    rw [echoAct_of_changed h lamp (by rwa [← hd]), hu, hd]
  · rw [requestEcho_of_room h lamp bound room]
    exact lampQueued_pushIndicator s m n c.echoBit i
  · exact requestEcho_of_full h lamp bound full

/-! ## Level notices -/

section Level
variable {q : LevelParams} {x : LevelCtx} {m : ModuleIx}

/-- A Level that finds room becomes the last given value (R91). -/
theorem giveLevel_of_room (h : (s.element i).control = .level q x) (bound : s.bound i = some m)
    (room : s.room (s.element i).lane = true) (v : Nat) (z : Zone) (g : Flags) (started failed : Timer) :
    giveLevel i v z g started failed s = State.setControl (s.pushNotice ⟨.level, (s.element i).lane, m.val + 1,
      i - (s.module m).entry.base, v, some z, g, some i⟩) i (.level q { x with lastGiven := some v, timer := started }) := by
  rw [giveLevel, State.elementNotice_of_bound bound]
  dsimp only
  rw [if_pos room, notify_of_room room]
  exact State.updLevel_of_level (s := State.pushNotice _ s) h _

/-- A Level that finds none leaves the element stale (R91, R102). -/
theorem giveLevel_of_no_room (h : (s.element i).control = .level q x) (bound : s.bound i = some m)
    (full : s.room (s.element i).lane = false) (v : Nat) (z : Zone) (g : Flags) (started failed : Timer) :
    giveLevel i v z g started failed s = State.setControl (s.countOverflow (s.element i).lane) i
      (.level q { x with stale := true, timer := failed }) := by
  have h' : ((s.countOverflow (s.element i).lane).element i).control = .level q x := h
  rw [giveLevel, State.elementNotice_of_bound bound]
  dsimp only
  rw [if_neg (by rw [full]; decide), notify_of_no_room full, noticeLost_state (.inr (.inl rfl)) rfl, State.setStale_of_level h',
    updLevel_setControl]

theorem replaceLevel_of_level (h : (s.element i).control = .level q x) (v : Nat) (z : Zone) :
    replaceLevel i v z s = State.setControl (amend (s.isFor i .level) (fun n => { n with value := v, zone := some z }) s) i
      (.level q { x with lastGiven := some v, held := none }) :=
  State.updLevel_of_level (by rw [amend_element, h]) _

/-! ## The expiries of the timers of elements -/

theorem expireRepeat_of_due (h : (s.element i).control = .key p c) (due : c.timer = some 0) :
    expireRepeat i s = settle (repeatExpiry i s) := by
  unfold expireRepeat
  rw [h]
  exact if_pos ((isDue_iff _).mpr due)

theorem expirePace_of_due (h : (s.element i).control = .level q x) (due : x.timer = some 0) :
    expirePace i s = settle (paceExpiry i s) := by
  unfold expirePace
  rw [h]
  exact if_pos ((isDue_iff _).mpr due)

theorem repeatExpiry_of_closed (h : (s.element i).control = .key p c) (closed : c.closed = true) (raw : c.rawClosed = true) :
    repeatExpiry i s = giveRepeat i s := by
  rw [repeatExpiry, h]
  simp only [KeyCtx.phase, closed, raw]
  rfl

theorem repeatExpiry_of_opening (h : (s.element i).control = .key p c) (closed : c.closed = true) (raw : c.rawClosed = false) :
    repeatExpiry i s = s.setControl i (.key p { c with repeatDue := true, timer := none }) := by
  have phase : c.phase = .opening := by simp [KeyCtx.phase, closed, raw]
  refine Eq.trans ?_ (State.updKey_of_key h fun k => { k with repeatDue := true, timer := none })
  rw [repeatExpiry, h]
  simp only [phase]

theorem paceExpiry_of_idle (h : (s.element i).control = .level q x) (none_held : x.held = none) :
    paceExpiry i s = s.setControl i (.level q { x with timer := none }) := by
  refine Eq.trans ?_ (State.updLevel_of_level h fun k => { k with timer := none })
  rw [paceExpiry, h]
  simp only [none_held]

theorem paceExpiry_of_held {v : Nat} (h : (s.element i).control = .level q x) (held : x.held = some v) :
    paceExpiry i s = if s.hasUntaken (s.isFor i .level) = true then
        (replaceLevel i v x.zone (s.setControl i (.level q { x with held := none }))).updLevel i fun k => { k with
          timer := if 0 < q.pace then some q.pace else none }
      else giveLevel i v x.zone {} (paceTimer q.pace) none (s.setControl i (.level q { x with held := none })) := by
  rw [paceExpiry, h]
  simp only [held, State.updLevel_of_level h]
  rfl

/-- Settles O33: by the state of the key, by what the level holds, and by the room its notice finds. -/
theorem elementTimersExpire : Obligations.ElementTimersExpire := by
  refine ⟨fun i s => ⟨fun p c pr n h due closed raw profile hn => ?_, fun p c h due closed raw => ?_, fun idle => ?_⟩,
    fun i s => ⟨fun q x h due => ⟨fun none_held => ?_, fun v held waits => ?_, fun v m held bound untaken room => ?_,
      fun v m held bound untaken full => ?_⟩, fun idle => ?_⟩⟩ <;> refine congrArg Host.Outcome.next ?_
  · rw [expireRepeat_of_due h due, repeatExpiry_of_closed h closed raw, giveRepeat_of_profile h profile hn]
  · rw [expireRepeat_of_due h due, repeatExpiry_of_opening h closed raw]
  · exact if_neg fun due => idle ((isDue_iff _).mp due)
  · rw [expirePace_of_due h due, paceExpiry_of_idle h none_held]
  · rw [expirePace_of_due h due, paceExpiry_of_held h held, if_pos waits]
  all_goals try exact if_neg fun due => idle ((isDue_iff _).mp due)
  all_goals
    have opened : ((s.setControl i (.level q { x with held := none })).element i).control = .level q { x with held := none } := by
      rw [State.element_setControl]
    have lane : ((s.setControl i (.level q { x with held := none })).element i).lane = (s.element i).lane := by
      rw [State.element_setControl]
    rw [expirePace_of_due h due, paceExpiry_of_held h held, if_neg (by rw [untaken]; decide)]
  · rw [giveLevel_of_room opened bound (by rw [lane]; exact room), lane]
    rfl
  · rw [giveLevel_of_no_room opened bound (by rw [lane]; exact full), lane]
    exact congrArg settle (State.setControl_setControl (s.countOverflow (s.element i).lane) i _ _)

end Level

/-! ## Loss -/

theorem dropSweep_eq (m : ModuleIx) (s : State) : dropSweep m s =
    s.setModule m { s.module m with sweep := ⟨[], false, 0⟩, mark := .recording } := by
  simp only [dropSweep, discardSweep, State.updSweep, State.updModule, State.setMark, State.module_setModule,
    State.setModule_setModule]
  rfl

theorem watchdogLoss_eq (m : ModuleIx) (s : State) : watchdogLoss m s = (s.boundTo m).foldl (fun t i => loseElement i t)
    (notify ⟨.moduleLost, 0, m.val + 1, 0, 0, none, {}, none⟩ (s.setModule m { s.module m with
      state := .silent, watchdog := none, sweep := ⟨[], false, 0⟩, mark := .recording })) := by
  rw [watchdogLoss, dropSweep_eq, State.updModule, State.module_setModule, State.setModule_setModule]
  rfl

theorem releaseKey_of_key (h : (s.element i).control = .key p c) {o : State} (ho : o = s.setControl i (.key p { c with
    rawClosed := false, closed := false, settle := 0, timer := none, repeatDue := false })) (g : Flags) :
    releaseKey i g s = if c.closed = true ∧ p.mode = .both then giveNotice i .release 0 none g o else o := by
  rw [releaseKey, h, ho]
  dsimp only
  rw [State.updKey_of_key h]
  rfl

/-- Settles O32: the expiry of a watchdog that is due, and the loss of an element by its class. -/
theorem watchdogExpiryLosesTheModule : Obligations.WatchdogExpiryLosesTheModule := by
  refine ⟨fun a m s addr => ?_, fun i s => ⟨fun p c o h ho => ?_, fun q x h => ?_, fun q x h => ?_, fun h => ?_⟩⟩
  · have expiry : exec (.watchdogExpiry a) s = .next (expireWatchdog m s) := by
      simp only [exec, execWatchdogExpiry, addr]
    rw [expiry]
    refine ⟨fun active due => congrArg Host.Outcome.next ?_, fun idle => congrArg Host.Outcome.next ?_⟩
    · exact (if_pos ⟨(isDue_iff _).mpr due, active⟩).trans (congrArg settle (watchdogLoss_eq m s))
    · exact if_neg fun h => idle ((isDue_iff _).mp h.1)
  · rw [loseElement, h]
    exact releaseKey_of_key h ho _
  · rw [loseElement, h]
    exact State.updLevel_of_level h _
  · rw [loseElement, h]
    exact State.updEncoder_of_encoder h _
  · rcases h with ⟨w, h⟩ | h <;> rw [loseElement, h]

end Sys2Proof.Machine

/-! # Encoders and levels (O36, O38) -/

namespace Sys2Proof.Machine

variable {s t e : State} {i : Nat}

/-! ## Encoders -/

theorem decodeSample_of_skip {r : Resolution} {c : EncoderCtx} {x : BitVec 2} (h : stepOf c.phase x = none) :
    decodeSample r c x = ({ c with phase := x, skips := if c.skips < 255 then c.skips + 1 else c.skips }, 0) := by
  rw [decodeSample, h]
  rfl

theorem decodeSample_of_rest {r : Resolution} {c : EncoderCtx} {x : BitVec 2} (h : stepOf c.phase x = some 0) :
    decodeSample r c x = ({ c with phase := x }, 0) := by
  rw [decodeSample, h]
  rfl

theorem decodeSample_of_step {r : Resolution} {c : EncoderCtx} {x : BitVec 2} {d : Int} (h : stepOf c.phase x = some d)
    (moves : d ≠ 0) : decodeSample r c x =
      ({ c with phase := x, sub := (countStep r c.sub d).1 }, (countStep r c.sub d).2) := by
  rw [decodeSample, h]
  exact if_neg moves

/-- The steps that a run of samples takes from a phase baseline (R81); a skip is none. -/
def stepsTaken : BitVec 2 → List (BitVec 2) → List Int
  | _, [] => []
  | b, x :: xs => (stepOf b x).getD 0 :: stepsTaken x xs

theorem length_stepsTaken (b : BitVec 2) (xs : List (BitVec 2)) : (stepsTaken b xs).length = xs.length := by
  induction xs generalizing b with
  | nil => rfl
  | cons x xs ih => simp [stepsTaken, ih]

theorem stepOf_getD (b x : BitVec 2) : (stepOf b x).getD 0 = -1 ∨ (stepOf b x).getD 0 = 0 ∨ (stepOf b x).getD 0 = 1 := by
  revert b x; decide

theorem stepsTaken_mem {b : BitVec 2} {xs : List (BitVec 2)} {d : Int} (h : d ∈ stepsTaken b xs) : d = -1 ∨ d = 0 ∨ d = 1 := by
  induction xs generalizing b with
  | nil => cases h
  | cons x xs ih =>
    rcases List.mem_cons.mp h with rfl | h
    · exact stepOf_getD b x
    · exact ih h

theorem stepsTaken_get {b : BitVec 2} {xs : List (BitVec 2)} (k : Nat) : (stepsTaken b xs)[k]? =
    (xs[k]?).map fun x => (stepOf (if k = 0 then b else xs.getD (k - 1) 0) x).getD 0 := by
  induction xs generalizing b k with
  | nil => simp [stepsTaken]
  | cons x xs ih =>
    cases k with
    | zero => simp [stepsTaken]
    | succ k =>
      simp only [stepsTaken, List.getElem?_cons_succ, ih]
      cases k <;> simp

/-- No step is lost at one sample (R82). -/
theorem decodeSample_conserves (r : Resolution) (c : EncoderCtx) (x : BitVec 2) :
    (decodeSample r c x).1.sub + r.steps * (decodeSample r c x).2 = c.sub + (stepOf c.phase x).getD 0 := by
  cases h : stepOf c.phase x with
  | none => rw [decodeSample_of_skip h]; simp
  | some d =>
    by_cases rest : d = 0
    · subst rest
      rw [decodeSample_of_rest h]; simp
    · rw [decodeSample_of_step h rest, countStep]
      split
      · simp; omega
      · split
        · simp; omega
        · simp

/-- No step is lost over a run of samples (R82). -/
theorem decodeSamples_conserves (r : Resolution) (xs : List (BitVec 2)) (c : EncoderCtx) :
    (decodeSamples r xs c).1.sub + r.steps * (decodeSamples r xs c).2 = c.sub + (stepsTaken c.phase xs).sum := by
  induction xs generalizing c with
  | nil => simp [decodeSamples, stepsTaken]
  | cons x xs ih =>
    have first := decodeSample_conserves r c x
    have later := ih (decodeSample r c x).1
    rw [(decodeSample_keeps r c x).1] at later
    simp only [decodeSamples, stepsTaken, List.sum_cons]
    rw [mul_add]
    omega

/-- The phase baseline ends at the last sample, and no skip is forgotten (R81). -/
theorem decodeSamples_phase (r : Resolution) (xs : List (BitVec 2)) (c : EncoderCtx) :
    (decodeSamples r xs c).1.phase = xs.getLastD c.phase ∧ c.skips ≤ (decodeSamples r xs c).1.skips := by
  induction xs generalizing c with
  | nil => exact ⟨rfl, le_refl _⟩
  | cons x xs ih =>
    obtain ⟨phase, -, -, skips⟩ := decodeSample_keeps r c x
    obtain ⟨last, more⟩ := ih (decodeSample r c x).1
    refine ⟨?_, ?_⟩
    · rw [phase] at last
      simpa [decodeSamples, List.getLast?_cons] using last
    · refine le_trans ?_ more
      rcases skips with skips | skips <;> rw [skips]
      unfold bump
      split <;> omega

theorem shapeDelta_eq (p : EncoderParams) (d : Int) {x : Int}
    (hx : x = if 0 < p.threshold ∧ (d ≤ -p.threshold ∨ (p.threshold : Int) ≤ d) then d * p.factor else d) :
    shapeDelta p d = if p.invert = true then -x else x := by
  have reached : (0 < p.threshold ∧ p.threshold ≤ d.natAbs) ↔
      0 < p.threshold ∧ (d ≤ -p.threshold ∨ (p.threshold : Int) ≤ d) := by omega
  rw [hx]
  unfold shapeDelta
  simp only [reached]

theorem encoderReport_of_encoder {p : EncoderParams} {c k : EncoderCtx} {d : Int} (h : (s.element i).control = .encoder p c)
    (v : Word) (decoded : decodeSamples p.resolution (samples v) c = (k, d)) :
    encoderReport i v s = if shapeDelta p d = 0 then s.setControl i (.encoder p k)
      else placeTurn i (shapeDelta p d) (s.setControl i (.encoder p k)) := by
  rw [encoderReport, h]
  dsimp only
  rw [decoded, State.updEncoder_of_encoder h]

/-- Settles O36: the table of steps, then one sample, then a run of them, by induction on the run. -/
theorem encoderStepsBecomeTurns : Obligations.EncoderStepsBecomeTurns := by
  refine ⟨by decide, by decide, fun r c x => ⟨decodeSample_of_skip, decodeSample_of_rest, fun d h moves => ?_⟩,
    fun r c => ⟨rfl, fun x xs a b m n first later => ?_⟩, fun r c e xs n h => ?_, fun r c xs lower upper => ?_,
    fun i v s p c k d x y h decoded hx hy => ?_, rfl, rfl, rfl⟩
  · rw [decodeSample_of_step h moves, countStep]
    refine ⟨fun up => by rw [if_pos up], fun down => ?_, fun up down => by rw [if_neg up, if_neg down]⟩
    have := r.steps_pos
    rw [if_neg (by omega), if_pos down]
  · simp only [decodeSamples, first, later]
  · obtain ⟨phase, skips⟩ := decodeSamples_phase r xs c
    obtain ⟨carry, owed, -⟩ := decodeSamples_keeps r xs c
    rw [h] at phase skips carry owed
    exact ⟨phase, carry, owed, skips⟩
  · obtain ⟨low, high⟩ := decodeSamples_sub xs lower upper
    exact ⟨low, high, stepsTaken c.phase xs, length_stepsTaken _ _, fun _ => stepsTaken_mem, fun k _ => stepsTaken_get k,
      decodeSamples_conserves r xs c⟩
  · rw [encoderReport_of_encoder h v decoded.symm, shapeDelta_eq p d hx, ← hy]

/-! ## Levels -/

section Level
variable {q : LevelParams} {x : LevelCtx} {m : ModuleIx}

theorem updateZone_of_level (h : (s.element i).control = .level q x) (v : Nat) : updateZone i v s =
    if q.zones = true ∧ zoneAfter q x.zone v ≠ x.zone then
      giveNotice i .zone 0 (some (zoneAfter q x.zone v)) {} (s.setControl i (.level q { x with zone := zoneAfter q x.zone v }))
    else s.setControl i (.level q { x with zone := zoneAfter q x.zone v }) := by
  rw [updateZone, h]
  dsimp only
  rw [State.updLevel_of_level h]

theorem State.zoneOf_of_level (h : (s.element i).control = .level q x) : s.zoneOf i = x.zone := by rw [State.zoneOf, h]

theorem levelReport_of_same {v : Nat} (h : (s.element i).control = .level q x) (same : x.raw = v) : levelReport i v s = s := by
  rw [levelReport, h]
  exact if_pos same

theorem levelReport_of_change {v : Nat} (h : (s.element i).control = .level q x) (change : x.raw ≠ v) {u : State}
    (hu : u = updateZone i v (s.setControl i (.level q { x with raw := v }))) :
    levelReport i v s = if u.hasUntaken (u.isFor i .level) = true then replaceLevel i v (u.zoneOf i) u else judgeLevel i v u := by
  rw [levelReport, h, hu]
  dsimp only
  rw [if_neg change, State.updLevel_of_level h]

theorem inDeadband_iff (q : LevelParams) (x : LevelCtx) (v : Nat) : inDeadband q x v = true ↔
    ∃ g, x.lastGiven = some g ∧ (v : Int) - g < q.deadband ∧ (g : Int) - v < q.deadband := by
  unfold inDeadband distance
  cases x.lastGiven with
  | none => simp
  | some g => simp; omega

/-- A value that met no untaken Level, by the deadband and the timer (R90, R91). -/
theorem judgeLevel_of_level (h : (s.element i).control = .level q x) (v : Nat) : judgeLevel i v s =
    if inDeadband q x v = true then s.setControl i (.level q { x with held := none })
    else if x.timer = none then giveLevel i v x.zone {} (paceTimer q.pace) none s
    else s.setControl i (.level q { x with held := some v }) := by
  rw [judgeLevel, h]
  dsimp only
  rw [State.updLevel_of_level h, State.updLevel_of_level h]
  cases x.timer <;> rfl

/-- Settles O38: the zone by its table, then the value by what the element holds. -/
theorem zoneFollowsItsTable : Obligations.ZoneFollowsItsTable := by
  refine ⟨fun i v s q x h => ⟨zoneAfter q x.zone v, fun off => ?_, fun on mid => ?_, fun on low => ?_, fun on high => ?_,
    fun change => ?_, fun same => ?_⟩, fun i v s q x h => ⟨levelReport_of_same h, fun u q' k change hu hk => ?_,
      fun z => replaceLevel_of_level h v z, fun g given below above => ?_, fun away => ⟨fun runs => ?_, fun m stopped bound =>
        ⟨fun room => ?_, fun full => ?_⟩⟩⟩, fun y s => State.hasUntaken_iff s y⟩
  · simp [zoneAfter, off]
  · simp only [zoneAfter, on, mid, if_true]
    exact ⟨fun h1 => if_pos h1, fun h1 h2 => by rw [if_neg (by omega), if_pos h2],
      fun h1 h2 => by rw [if_neg (by omega), if_neg (by omega)]⟩
  · simp only [zoneAfter, on, low, if_true]
    exact ⟨fun h1 => if_pos h1, fun h1 h2 => by rw [if_neg (by omega), if_pos h2],
      fun h1 h2 => by rw [if_neg (by omega), if_neg (by omega)]⟩
  · simp only [zoneAfter, on, high, if_true]
    exact ⟨fun h1 => if_pos h1, fun h1 h2 => by rw [if_neg (by omega), if_pos (by omega)],
      fun h1 h2 => by rw [if_neg (by omega), if_neg (by omega)]⟩
  · rw [updateZone_of_level h, if_pos change]
  · rw [updateZone_of_level h, if_neg]
    rintro ⟨on, change⟩
    rcases same with off | same
    · rw [off] at on; cases on
    · exact change same
  · rw [levelReport_of_change h change hu, State.zoneOf_of_level hk]
  · rw [judgeLevel_of_level h, if_pos ((inDeadband_iff q x v).mpr ⟨g, given, below, above⟩)]
  all_goals
    have outside : ¬ inDeadband q x v = true := by
      rw [inDeadband_iff]
      rintro ⟨g, given, below, above⟩
      have := away g given
      omega
    rw [judgeLevel_of_level h, if_neg outside]
  · rw [if_neg runs]
  · rw [if_pos stopped, giveLevel_of_room h bound room]
    rfl
  · rw [if_pos stopped, giveLevel_of_no_room h bound full, ← stopped]

end Level

end Sys2Proof.Machine

/-! # Reports, sweeps and the capture ring (O27 to O31, O52) -/

namespace Sys2Proof.Machine

variable {s t e : State} {i : Nat} {m : ModuleIx}

/-! ## The capture ring -/

theorem CaptureRing.admits_iff (r : CaptureRing) (m : ModuleIx) :
    r.admits m = true ↔ r.enabled = true ∧ (r.filter = none ∨ r.filter = some m) := by simp [CaptureRing.admits]

theorem captureReport_of_not_admitted (h : ¬ (s.capture.admits m = true ∧ (s.module m).mark = .recording)) (x : Byte) (v : Word) :
    captureReport m x v s = s := if_neg (by simpa using h)

theorem captureReport_of_admitted (admits : s.capture.admits m = true) (mark : (s.module m).mark = .recording)
    (x : Byte) (v : Word) : captureReport m x v s = if s.capture.heldCount < 256 then
      { s with capture := { s.capture with uncommitted := s.capture.uncommitted ++ [.report m x v] } }
      else captureOverflow m .withdrawn s := if_pos (by simp [admits, mark])

theorem captureSweep_of_recording (mark : (s.module m).mark = .recording) (x : Byte) (o : SweepOutcome) :
    captureSweep m x o s = if s.capture.admits m = true then (if s.capture.heldCount < 256 then
        { s with capture := { s.capture with
          readable := s.capture.readable ++ s.capture.uncommitted ++ [.sweep m x o], uncommitted := [] } }
        else captureOverflow m .recording s) else s := by
  rw [captureSweep, mark]

theorem State.dropsSweep_eq (s : State) (m k : ModuleIx) : s.dropsSweep m k = decide (k = m ∨
    ((s.module k).mark = .recording ∧ ∃ y w, CaptureEntry.report k y w ∈ s.capture.uncommitted)) := by
  have reports : (s.capture.uncommitted.any fun e => e.reporter == some k) = true ↔
      ∃ y w, CaptureEntry.report k y w ∈ s.capture.uncommitted := by
    rw [List.any_eq_true]
    constructor
    · rintro ⟨entry, listed, hit⟩
      cases entry with
      | report m' y w =>
        have same : m' = k := by simpa [CaptureEntry.reporter] using hit
        exact ⟨y, w, same ▸ listed⟩
      | sweep m' n o => simp [CaptureEntry.reporter] at hit
    · rintro ⟨y, w, listed⟩
      exact ⟨_, listed, by simp [CaptureEntry.reporter]⟩
  rw [Bool.eq_iff_iff, decide_eq_true_iff, ← reports]
  simp [State.dropsSweep]

/-- An overflow in the terms of the statements (R163). -/
theorem captureOverflow_eq (m : ModuleIx) (own : Mark) (s : State) {dropped : List ModuleIx}
    (hd : dropped = (List.finRange 62).filter (s.dropsSweep m)) : captureOverflow m own s = { s with
      capture := { s.capture with uncommitted := [], dropped := min 65535 (s.capture.dropped + dropped.length) }
      modules := Vector.ofFn fun k => { s.module k with
        mark := if k = m then own else if dropped.contains k then .withdrawn else (s.module k).mark } } := by
  have contains : ∀ k, dropped.contains k = s.dropsSweep m k := fun k => by
    rw [Bool.eq_iff_iff, List.contains_iff_mem, hd, List.mem_filter]
    simp [List.mem_finRange]
  have count : bumpBy Config.counterTop s.capture.dropped (allModules.filter (s.dropsSweep m)).length =
      min 65535 (s.capture.dropped + dropped.length) := by
    rw [show allModules = List.finRange 62 from rfl, ← hd, bumpBy, Config.counterTop]
    split <;> omega
  rw [captureOverflow, count]
  simp only [contains]

/-- Settles O52: an append with room, one without, and none at all. -/
theorem captureRecordsAndOverflows : Obligations.CaptureRecordsAndOverflows := by
  refine ⟨fun m x v o s => ⟨fun on filter mark room => ?_, fun withdrawn => ?_, fun refused mark => ?_⟩,
    fun m x v o s dropped ring on filter mark full hd hr => ?_⟩
  · have admits := (CaptureRing.admits_iff _ m).mpr ⟨on, filter⟩
    rw [captureReport_of_admitted admits mark, captureSweep_of_recording mark, if_pos admits]
    exact ⟨if_pos room, if_pos room⟩
  · refine ⟨captureReport_of_not_admitted (fun h => ?_) x v, ?_⟩
    · rw [withdrawn] at h; cases h.2
    · rw [captureSweep, withdrawn]; rfl
  · have shut : ¬ s.capture.admits m = true := by
      rw [CaptureRing.admits_iff]
      rintro ⟨on, filter⟩
      rcases refused with off | ⟨some_, other⟩
      · rw [off] at on; cases on
      · exact filter.elim some_ other
    rw [captureSweep_of_recording mark, if_neg shut]
    exact ⟨captureReport_of_not_admitted (fun h => shut h.1) x v, rfl⟩
  · have admits := (CaptureRing.admits_iff _ m).mpr ⟨on, filter⟩
    have same : dropped = (List.finRange 62).filter (s.dropsSweep m) := by
      rw [hd]
      exact List.filter_congr fun k _ => (State.dropsSweep_eq s m k).symm
    have filled : ¬ s.capture.heldCount < 256 := by rw [CaptureRing.heldCount]; omega
    have own : dropped.contains m = true := by
      rw [same, List.contains_iff_mem, List.mem_filter]
      exact ⟨List.mem_finRange m, by simp [State.dropsSweep]⟩
    rw [captureReport_of_admitted admits mark, captureSweep_of_recording mark, if_pos admits, if_neg filled, if_neg filled,
      captureOverflow_eq m .withdrawn s same, captureOverflow_eq m .recording s same, hr]
    refine ⟨?_, rfl⟩
    have marks : ∀ k : ModuleIx, (if k = m then Mark.withdrawn else if dropped.contains k then .withdrawn else (s.module k).mark) =
        if dropped.contains k then .withdrawn else (s.module k).mark := fun k => by
      by_cases h : k = m
      · rw [if_pos h, h, if_pos own]
      · rw [if_neg h]
    simp only [marks]

/-! ## The routing of reports and sweeps -/

theorem route_of_assembled {f : Frame} (kinds : f.kind = 1 ∨ f.kind = 2) (len : f.payload.length ≤ 240)
    (addr : moduleOf f.addr = some m) (on : (s.module m).entry.enabled = true) : route .surface f s = assemble m f s := by
  rw [route_surface len, routeSurface, if_pos kinds, addr]
  exact if_pos on

theorem entriesOf_entryBytes (es : List ReportEntry) : entriesOf (entryBytes es) = es := by
  induction es with
  | nil => rfl
  | cons r es ih =>
    have bytes : entryBytes (r :: es) = r.element :: hiByte r.value :: loByte r.value :: entryBytes es := rfl
    rw [bytes, entriesOf, ih, wordOf_hiByte_loByte]

/-- An Element Report of one to eighty entries reaches the sweep assembler (R7, R8). -/
theorem exec_elementReport {a : BitVec 6} {es : List ReportEntry} (free : s.holding = false) (addr : moduleOf a = some m)
    (on : (s.module m).entry.enabled = true) (some_ : 1 ≤ es.length) (few : es.length ≤ 80) (he : e = endPartial .surface s) :
    exec (.elementReport a es) s = .next (settle (takeReport m es e)) := by
  have length := length_entryBytes es
  have same : e.module m = s.module m := by rw [he]; exact State.module_congr (endPartial_modules .surface s) m
  refine frameArrives_eq free he ((route_of_assembled (.inl rfl) (by simp only; omega) addr (by rwa [same])).trans ?_)
  rw [assemble, if_pos rfl, if_pos (by simp [reportFits, length, Config.maxPayload]; omega), entriesOf_entryBytes]

/-- A Sweep End reaches the sweep assembler (R7, R8). -/
theorem exec_sweepEnd {a : BitVec 6} (free : s.holding = false) (addr : moduleOf a = some m)
    (on : (s.module m).entry.enabled = true) (he : e = endPartial .surface s) (number count flags : Byte) :
    exec (.sweepEnd a number count flags) s = .next (settle (takeSweepEnd m number count flags e)) := by
  have same : e.module m = s.module m := by rw [he]; exact State.module_congr (endPartial_modules .surface s) m
  have kind : (2 : BitVec 4) ≠ 1 := by decide
  refine frameArrives_eq free he ((route_of_assembled (.inr rfl) (by simp) addr (by rwa [same])).trans ?_)
  exact if_neg kind

/-! ## Report entries -/

theorem OpenSweep.holds_iff (w : OpenSweep) (n : Nat) : w.holds n = true ↔ ∃ y ∈ w.slots, y.element = n := by
  simp [OpenSweep.holds]

theorem State.updSweep_eq (m : ModuleIx) (f : OpenSweep → OpenSweep) (s : State) :
    s.updSweep m f = s.setModule m { s.module m with sweep := f (s.module m).sweep } := rfl

/-- Settles O27: the entries of a report, and one entry by the open sweep it meets. -/
theorem reportsReachTheOpenSweep : Obligations.ReportsReachTheOpenSweep := by
  refine ⟨fun a es m s e free addr on some_ few he => ?_, fun m r s x received hx hr => ?_, fun _ => rfl⟩
  · have same : e.module m = s.module m := by rw [he]; exact State.module_congr (endPartial_modules .surface s) m
    rw [exec_elementReport free addr on some_ few he, takeReport, same]
    constructor
    · rintro (state | state) <;> rw [state]
    · rintro (state | state) <;> rw [state]
  · subst hx
    have counted : bump 256 (s.module m).sweep.received = received := hr.symm
    have taken : takeEntry m r s =
        if (s.module m).entry.count ≤ r.element.toNat then
          (s.setModule m { s.module m with sweep := { (s.module m).sweep with received := received } }).countRangeError
        else if (s.module m).sweep.broken = true then
          s.setModule m { s.module m with sweep := { (s.module m).sweep with received := received } }
        else if (s.module m).sweep.holds r.element.toNat = true then
          captureReport m r.element r.value (s.setModule m { s.module m with sweep :=
            ⟨(s.module m).sweep.slots.map fun y => if y.element = r.element.toNat then ⟨y.element, r.value⟩ else y,
              (s.module m).sweep.broken, received⟩ })
        else if s.slotsUsed < 256 then
          captureReport m r.element r.value (s.setModule m { s.module m with sweep :=
            ⟨(s.module m).sweep.slots ++ [⟨r.element.toNat, r.value⟩], (s.module m).sweep.broken, received⟩ })
        else s.setModule m { s.module m with sweep := ⟨[], true, received⟩ } := by
      rw [takeEntry]
      simp only [State.updSweep_eq, State.module_setModule, State.setModule_setModule, counted]
      rfl
    refine ⟨fun beyond => ?_, fun inside broken => ?_, fun inside whole held => ?_, fun inside whole new => ?_⟩
    · rw [taken, if_pos beyond]
      rfl
    · rw [taken, if_neg (by omega), if_pos broken]
    · rw [taken, if_neg (by omega), if_neg (by rw [whole]; decide), if_pos ((OpenSweep.holds_iff _ _).mpr held)]
    · rw [taken, if_neg (by omega), if_neg (by rw [whole]; decide), if_neg]
      rw [OpenSweep.holds_iff]
      rintro ⟨y, listed, number⟩
      exact new y listed number

/-! ## Sweep Ends -/

theorem State.setModule_module (s : State) (m : ModuleIx) : s.setModule m (s.module m) = s := by
  simp [State.setModule, State.module]

theorem endPartial_settings (p : Port) (s : State) : (endPartial p s).settings = s.settings := by
  rcases endPartial_cases p s with h | h <;> rw [h]
  cases p <;> rfl

theorem endPartial_chainPace (p : Port) (s : State) : (endPartial p s).chainPace = s.chainPace := by
  rcases endPartial_cases p s with h | h <;> rw [h]
  cases p <;> rfl

theorem updateView_eq (m : ModuleIx) (s : State) : updateView m s = s.setModule m { s.module m with
    paceView := if s.chainPace = .brisk then .brisk else (s.module m).paceView } := by
  unfold updateView
  cases s.chainPace with
  | brisk => rfl
  | slow => exact (State.setModule_module s m).symm

theorem startWatchdog_eq (m : ModuleIx) (s : State) : startWatchdog m s = s.setModule m { s.module m with
    watchdog := some (if (s.module m).paceView = .brisk then s.settings.briskTimeout else s.settings.slowTimeout) } := by
  unfold startWatchdog State.updModule
  generalize s.module m = x
  rcases x with ⟨entry, state, last, sweep, run, view, rest⟩
  cases view <;> rfl

theorem takeSweepEnd_of_active (h : (s.module m).state = .active) (number count flags : Byte) :
    takeSweepEnd m number count flags s = sweepEndActive m number count (updateView m s) := by rw [takeSweepEnd, h]

theorem takeSweepEnd_of_waiting (h : (s.module m).state = .waiting) (number count flags : Byte) :
    takeSweepEnd m number count flags s = sweepEndWaiting m number count flags (updateView m s) := by rw [takeSweepEnd, h]

theorem takeSweepEnd_of_silent (h : (s.module m).state = .silent) (number count flags : Byte) :
    takeSweepEnd m number count flags s = sweepEndSilent m number (updateView m s) := by rw [takeSweepEnd, h]

theorem takeSweepEnd_of_draining (h : (s.module m).state = .draining) (number count flags : Byte) :
    takeSweepEnd m number count flags s = sweepEndDraining m number (updateView m s) := by rw [takeSweepEnd, h]

/-- The outcome of a sweep that is rejected, by the first case of R25 that holds. -/
theorem judgeSweep_of_rejected {x : Module} {number count : Byte} {o : SweepOutcome}
    (h : x.lastApplied = some number ∧ o = .duplicate ∨
      x.lastApplied ≠ some number ∧ x.sweep.broken = true ∧ o = .broken ∨
      x.lastApplied ≠ some number ∧ x.sweep.broken = false ∧ count.toNat ≠ x.sweep.received ∧ o = .count) :
    judgeSweep x number count = o := by
  unfold judgeSweep
  rcases h with ⟨last, rfl⟩ | ⟨new, broken, rfl⟩ | ⟨new, whole, count, rfl⟩
  · rw [if_pos last]
  · rw [if_neg new, if_pos broken]
  · rw [if_neg new, if_neg (by rw [whole]; decide), if_pos count]

/-- The outcome of a sweep that is applied. -/
theorem judgeSweep_of_accepted {x : Module} {number count : Byte} (new : x.lastApplied ≠ some number)
    (whole : x.sweep.broken = false) (counted : count.toNat = x.sweep.received) :
    judgeSweep x number count = if x.lastApplied = some (number - 1) then .applied else .gap := by
  rw [judgeSweep, if_neg new, if_neg (by rw [whole]; decide), if_neg (by simpa using counted)]

theorem sweepEndActive_of_duplicate {number count : Byte} (h : judgeSweep (s.module m) number count = .duplicate) :
    sweepEndActive m number count s =
      captureSweep m number .duplicate (startWatchdog m (countDuplicate m (discardSweep m s))) := by
  rw [sweepEndActive, h]

theorem sweepEndActive_of_rejected {number count : Byte} {o : SweepOutcome} (h : judgeSweep (s.module m) number count = o)
    (rejected : o = .broken ∨ o = .count) : sweepEndActive m number count s =
      captureSweep m number o (startWatchdog m (countRejected m (discardSweep m s))) := by
  rw [sweepEndActive, h]
  rcases rejected with rfl | rfl <;> rfl

theorem sweepEndActive_of_accepted {number count : Byte} {o : SweepOutcome} (h : judgeSweep (s.module m) number count = o)
    (accepted : o = .applied ∨ o = .gap) : sweepEndActive m number count s =
      captureSweep m number o (startWatchdog m (if o = .gap then countGap m (applySweep m number s) else applySweep m number s)) := by
  rw [sweepEndActive, h]
  rcases accepted with rfl | rfl <;> rfl

theorem discardSweep_eq (m : ModuleIx) (s : State) :
    discardSweep m s = s.setModule m { s.module m with sweep := ⟨[], false, 0⟩ } := rfl

theorem countRejected_eq (m : ModuleIx) (s : State) :
    countRejected m s = s.setModule m { s.module m with rejected := bump 65535 (s.module m).rejected } := rfl

theorem countDuplicate_eq (m : ModuleIx) (s : State) :
    countDuplicate m s = s.setModule m { s.module m with duplicates := bump 65535 (s.module m).duplicates } := rfl

theorem countGap_eq (m : ModuleIx) (s : State) :
    countGap m s = s.setModule m { s.module m with gaps := bump 65535 (s.module m).gaps } := rfl

/-- Settles O28: the outcome, then the discard, the count and the watchdog on the one module. -/
theorem rejectedSweepIsDiscarded : Obligations.RejectedSweepIsDiscarded := by
  refine ⟨fun a number count flags m s e x view o free addr hx on active he hview why => ?_, fun _ _ => rfl⟩
  have same : e.module m = x := by rw [he, hx]; exact State.module_congr (endPartial_modules .surface s) m
  have settings : e.settings = s.settings := by rw [he, endPartial_settings]
  have pace : e.chainPace = s.chainPace := by rw [he, endPartial_chainPace]
  rw [exec_sweepEnd free addr (hx ▸ on) he, takeSweepEnd_of_active (by rw [same]; exact active), updateView_eq, same, pace, ← hview]
  have judged : judgeSweep ((e.setModule m { x with paceView := view }).module m) number count = o := by
    rw [State.module_setModule]
    exact judgeSweep_of_rejected (x := { x with paceView := view }) why
  have kind : o = .duplicate ∨ o = .broken ∨ o = .count := by
    rcases why with ⟨-, h⟩ | ⟨-, -, h⟩ | ⟨-, -, -, h⟩
    exacts [.inl h, .inr (.inl h), .inr (.inr h)]
  rcases kind with rfl | rejected
  · rw [sweepEndActive_of_duplicate judged, startWatchdog_eq, countDuplicate_eq, discardSweep_eq]
    simp only [State.module_setModule, State.setModule_setModule, State.setModule_settings, settings, if_true]
  · have other : o ≠ .duplicate := by rcases rejected with rfl | rfl <;> decide
    rw [sweepEndActive_of_rejected judged rejected, startWatchdog_eq, countRejected_eq, discardSweep_eq]
    simp only [State.module_setModule, State.setModule_setModule, State.setModule_settings, settings, if_neg other]

theorem applySweep_eq (m : ModuleIx) (number : Byte) (s : State) {d : State}
    (hd : d = (((s.module m).sweep.slots.foldl (fun t x => reportValue ((s.module m).entry.base + x.element) x.value t) s).boundTo
      m).foldl (fun t i => debounce i t)
      ((s.module m).sweep.slots.foldl (fun t x => reportValue ((s.module m).entry.base + x.element) x.value t) s)) :
    applySweep m number s = toldApplied (decide ((s.module m).sweep.slots ≠ [])) (d.setModule m { d.module m with
      emptyRun := if (s.module m).sweep.slots = [] then bump 255 (d.module m).emptyRun else 0,
      lastApplied := some number, sweep := ⟨[], false, 0⟩ }) := by
  rw [hd]
  rfl

theorem State.countRangeError_eq (s : State) : s.countRangeError = s.rangeCounted := rfl

theorem reportValue_of_key {p : KeyParams} {c : KeyCtx} (h : (s.element i).control = .key p c) (v : Word) :
    reportValue i v s = if v.toNat ≤ 1 then keyReport i (v == 1) s else s.rangeCounted := by
  rw [reportValue, h, State.countRangeError_eq]

theorem reportValue_of_encoder {p : EncoderParams} {c : EncoderCtx} (h : (s.element i).control = .encoder p c) (v : Word) :
    reportValue i v s = if v.toNat ≤ 255 then encoderReport i v s else s.rangeCounted := by
  rw [reportValue, h, State.countRangeError_eq]

theorem reportValue_of_level {p : LevelParams} {c : LevelCtx} (h : (s.element i).control = .level p c) (v : Word) :
    reportValue i v s = if v.toNat ≤ 1023 then levelReport i v.toNat s else s.rangeCounted := by
  rw [reportValue, h, State.countRangeError_eq]

/-- Settles O29: the sweep applied, then the count of a gap and the watchdog; a slot's value by the class of its element. -/
theorem acceptedSweepIsApplied : Obligations.AcceptedSweepIsApplied := by
  refine ⟨fun a number count flags m s e v d o free addr on active new whole counted he ho hv hd => ⟨_, rfl, ?_⟩,
    fun i v s => ⟨fun p c h => ⟨fun fits => ?_, fun large => ?_⟩, fun p c h => ⟨fun fits => ?_, fun large => ?_⟩,
      fun p c h => ⟨fun fits => ?_, fun large => ?_⟩, fun w h => ⟨fun same => ?_, fun change => ?_⟩, fun h => by rw [reportValue, h]⟩,
    startWatchdog_eq⟩
  · have same : e.module m = s.module m := by rw [he]; exact State.module_congr (endPartial_modules .surface s) m
    have pace : e.chainPace = s.chainPace := by rw [he, endPartial_chainPace]
    have view : updateView m e = v := by rw [updateView_eq, pace, hv, same]
    have module_v : v.module m = { s.module m with
        paceView := if s.chainPace = .brisk then .brisk else (s.module m).paceView } := by
      rw [hv, State.module_setModule, same]
    have judged : judgeSweep (v.module m) number count = o := by
      rw [module_v, ho]
      exact judgeSweep_of_accepted (x := { s.module m with paceView := _ }) new whole counted
    have accepted : o = .applied ∨ o = .gap := by
      rw [ho]
      split
      exacts [.inl rfl, .inr rfl]
    have applied := applySweep_eq m number v (d := d) (by rw [hd, module_v])
    rw [module_v] at applied
    rw [exec_sweepEnd free addr on he, takeSweepEnd_of_active (by rw [same]; exact active), view,
      sweepEndActive_of_accepted judged accepted, applied]
    rfl
  · rw [reportValue_of_key h, if_pos fits]
  · rw [reportValue_of_key h, if_neg (by omega)]
  · rw [reportValue_of_encoder h, if_pos fits]
  · rw [reportValue_of_encoder h, if_neg (by omega)]
  · rw [reportValue_of_level h, if_pos fits]
  · rw [reportValue_of_level h, if_neg (by omega)]
  · rw [reportValue, h]
    exact if_pos same
  · rw [reportValue, h]
    exact if_neg change

/-- Where an element number has no slot there is no complete Full sweep (R27). -/
theorem completeFull_iff (x : Module) (count flags : Byte) : completeFull x count flags = true ↔
    flags.getLsbD 0 = true ∧ x.sweep.broken = false ∧ count.toNat = x.sweep.received ∧
      ∀ n < x.entry.count, ∃ z ∈ x.sweep.slots, z.element = n := by
  simp [completeFull, OpenSweep.holds, and_assoc]

/-- Settles O30: the module of a rejected Sweep End, state by state. -/
theorem sweepEndOutsideActiveIsRejected : Obligations.SweepEndOutsideActiveIsRejected := by
  intro a number count flags m s e c x y free addr hx on he hy
  have same : e.module m = x := by rw [he, hx]; exact State.module_congr (endPartial_modules .surface s) m
  have pace : e.chainPace = s.chainPace := by rw [he, endPartial_chainPace]
  have view : updateView m e = e.setModule m { x with paceView := if s.chainPace = .brisk then .brisk else x.paceView } := by
    rw [updateView_eq, pace, same]
  rw [exec_sweepEnd free addr (hx ▸ on) he]
  refine ⟨fun waiting short => ?_, fun silent hc => ?_, fun draining => ?_⟩
  · have not_full : ¬ completeFull { x with paceView := if s.chainPace = .brisk then .brisk else x.paceView } count flags = true := by
      rw [completeFull_iff]
      rintro ⟨full, whole, counted, slots⟩
      rcases short with no_flag | broken | wrong | ⟨n, inside, missing⟩
      · rw [no_flag] at full; cases full
      · exact absurd (broken.symm.trans whole) (by decide)
      · exact wrong counted
      · obtain ⟨z, listed, number⟩ := slots n inside
        exact missing z listed number
    rw [takeSweepEnd_of_waiting (by rw [same]; exact waiting), view, sweepEndWaiting, State.module_setModule, if_neg not_full,
      countRejected_eq, discardSweep_eq, hy]
    simp only [State.module_setModule, State.setModule_setModule]
  · rw [takeSweepEnd_of_silent (by rw [same]; exact silent), view, sweepEndSilent, countRejected_eq, State.module_setModule,
      State.setModule_setModule, hc, hy]
    rfl
  · rw [takeSweepEnd_of_draining (by rw [same]; exact draining), view, sweepEndDraining, countRejected_eq,
      State.module_setModule, State.setModule_setModule, hy]

end Sys2Proof.Machine

/-! # A module joins (O31) -/

namespace Sys2Proof.Machine

variable {s t e : State} {i : Nat} {m : ModuleIx}

theorem updKey_congr {p : KeyParams} {c : KeyCtx} (h : (s.element i).control = .key p c) {f g : KeyCtx → KeyCtx}
    (same : f c = g c) : s.updKey i f = s.updKey i g := by
  rw [State.updKey_of_key h, State.updKey_of_key h, same]

theorem joinModule_eq (m : ModuleIx) (number : Byte) (s : State) {x : Module} (hx : x = s.module m) {j b : State}
    (hj : j = notify ⟨.moduleJoined, 0, m.val + 1, 0, x.entry.count, none, {}, none⟩ (s.setModule m { x with
      state := .active, lastApplied := some number, emptyRun := 0, resyncOwed := false,
      watchdog := some (if x.paceView = .brisk then s.settings.briskTimeout else s.settings.slowTimeout) }))
    (hb : b = (List.range x.entry.count).foldl
      (fun t n => baseline (x.entry.base + n) (((x.sweep.slots.find? fun z => z.element == n).map (·.value)).getD 0) t) j) :
    joinModule m number s = captureSweep m number .joined (toldJoined
      (b.setModule m { b.module m with sweep := ⟨[], false, 0⟩ })) := by
  rw [joinModule, startWatchdog_eq]
  simp only [State.updModule, State.module_setModule, State.setModule_setModule, State.setModule_settings]
  rw [discardSweep_eq, hb, hj, hx]
  rfl

/-! ## Baselines by class -/

theorem baseline_of_key {p : KeyParams} {c : KeyCtx} (h : (s.element i).control = .key p c) (v : Word) :
    baseline i v s = if v.toNat ≤ 1 then keyBaseline i (v == 1) s else (keyNoBaseline i s).countRangeError := by
  rw [baseline, h]

theorem baseline_of_encoder {p : EncoderParams} {c : EncoderCtx} (h : (s.element i).control = .encoder p c) (v : Word) :
    baseline i v s = if v.toNat ≤ 255 then encoderBaseline i v s else (clearSub i s).countRangeError := by
  rw [baseline, h]

theorem baseline_of_level {p : LevelParams} {c : LevelCtx} (h : (s.element i).control = .level p c) (v : Word) :
    baseline i v s = if v.toNat ≤ 1023 then levelBaseline i v.toNat s else s.rangeCounted := by
  rw [← State.countRangeError_eq, baseline, h]

/-- The notice of a key's baseline leaves its context but for the stale flag (R76). -/
theorem keyBaseline_notice {p : KeyParams} {c : KeyCtx} {k : State} (h : (k.element i).control = .key p c) (x : Bool) (v : Int) :
    ∃ b, (((if p.mode = .toggle then giveNotice i .toggle v none { baseline := true } k
      else if x = true then giveNotice i .press 0 none { baseline := true } k else k).element i).control) =
        .key p { c with stale := b } := by
  split
  · exact giveNotice_key h _ _ _ _
  · split
    · exact giveNotice_key h _ _ _ _
    · exact ⟨c.stale, h⟩

theorem keyBaseline_of_key {p : KeyParams} {c : KeyCtx} (h : (s.element i).control = .key p c) {x : Bool} {k g b : State}
    (hk : k = s.setControl i (.key p { c with
      rawClosed := x, closed := x, settle := 0, timer := none, repeatDue := false, sent := 0 }))
    (hg : g = if p.mode = .toggle then giveNotice i .toggle (if c.latched then 1 else 0) none { baseline := true } k
      else if x = true then giveNotice i .press 0 none { baseline := true } k else k)
    (hb : b = if p.echo = none then g
      else if c.echoPending = true then g.updKey i fun y => { y with echoBit := if p.echoMode = .follow then x else c.latched }
      else requestEcho i (g.updKey i fun y => { y with echoBit := if p.echoMode = .follow then x else c.latched })) :
    keyBaseline i x s = if x = true then startRepeat i b else b := by
  have key : (k.element i).control = .key p { c with
      rawClosed := x, closed := x, settle := 0, timer := none, repeatDue := false, sent := 0 } := by
    rw [hk, State.element_setControl]
  obtain ⟨stale, context⟩ := keyBaseline_notice key x (if c.latched then 1 else 0)
  rw [← hg] at context
  have echo : (g.updKey i fun y => { y with echoBit := desired p y }) =
      g.updKey i fun y => { y with echoBit := if p.echoMode = .follow then x else c.latched } :=
    updKey_congr context (by simp only [desired_eq])
  have tail : ∀ u, u = g → (if p.echo.isSome = true then
      if c.echoPending = true then u.updKey i fun y => { y with echoBit := desired p y }
      else requestEcho i (u.updKey i fun y => { y with echoBit := desired p y }) else u) = b := fun u hu => by
    rw [hu, echo, hb]
    cases p.echo <;> simp
  have notice : (match p.mode with
      | .toggle => giveNotice i .toggle (if c.latched then 1 else 0) none { baseline := true } k
      | .both => if x then giveNotice i .press 0 none { baseline := true } k else k
      | .pressOnly => if x then giveNotice i .press 0 none { baseline := true } k else k) = g := by
    rw [hg]
    cases p.mode <;> rfl
  have whole := tail _ notice
  rw [keyBaseline, h]
  dsimp only
  rw [State.updKey_of_key h, ← hk]
  exact if_congr Iff.rfl (congrArg (startRepeat i) whole) whole

theorem isLevelOf_iff (i : Nat) (n : Notice) : isLevelOf i n = true ↔ n.index = some i ∧ n.kind = .level := by
  simp [isLevelOf]

theorem zoneFresh_eq (p : LevelParams) (v : Nat) : zoneFresh p v =
    if p.zones = false then .mid else if v < p.low then .low else if p.high < v then .high else .mid := by
  unfold zoneFresh
  cases p.zones <;> rfl

section Level
variable {p : LevelParams} {c : LevelCtx} {k : State}

theorem levelBaseline_of_level (h : (s.element i).control = .level p c) (bound : s.bound i = some m) (v : Nat)
    (hk : k = s.setControl i (.level p { c with raw := v, zone := zoneFresh p v, lastGiven := some v, held := none })) :
    levelBaseline i v s = if s.hasUntaken (isLevelOf i) = true then
        amend (if s.hasUntaken (s.isFor i .level) = true then s.isFor i .level else isLevelOf i) (fun n => { n with
          value := v, zone := some (zoneFresh p v), module := m.val + 1, element := i - (s.module m).entry.base,
          flags := { baseline := true } }) k
      else giveNotice i .level v (some (zoneFresh p v)) { baseline := true } k := by
  have waits : ∀ y, k.hasUntaken y = s.hasUntaken y := fun y => State.hasUntaken_congr (by rw [hk]; rfl) y
  have isFor : k.isFor i .level = s.isFor i .level := State.isFor_congr (by rw [hk]; rfl) i .level
  rw [levelBaseline, h, bound]
  dsimp only
  rw [State.updLevel_of_level h, ← hk, State.baselineLevel, waits, waits, isFor]
  rfl

end Level

/-- Settles O31: the join, then the baselines by class. -/
theorem fullSweepJoinsTheModule : Obligations.FullSweepJoinsTheModule := by
  refine ⟨fun a number count flags m s e x view free addr hx on waiting full whole counted slots he hview => ?_,
    fun i v s => ⟨fun p c h => ⟨fun large => ?_, fun x k g b hv hk hg hb => ?_⟩, fun p c h => ⟨fun fits => ?_, fun large => ?_⟩,
      fun p c h => ⟨fun m z k fits bound hz hk => ⟨fun none_waits => ?_, fun y waits hy => ?_⟩, fun large => ?_⟩,
      fun w h => by rw [baseline, h]; rfl, fun h => by rw [baseline, h]⟩⟩
  · have same : e.module m = x := by rw [he, hx]; exact State.module_congr (endPartial_modules .surface s) m
    have settings : e.settings = s.settings := by rw [he, endPartial_settings]
    have pace : e.chainPace = s.chainPace := by rw [he, endPartial_chainPace]
    refine ⟨_, _, rfl, rfl, ?_⟩
    have complete : completeFull { x with paceView := view } count flags = true :=
      (completeFull_iff _ _ _).mpr ⟨full, whole, counted, slots⟩
    rw [exec_sweepEnd free addr (hx ▸ on) he, takeSweepEnd_of_waiting (by rw [same]; exact waiting), updateView_eq, same, pace,
      ← hview, sweepEndWaiting, State.module_setModule, if_pos complete,
      joinModule_eq m number _ (x := { x with paceView := view }) (by rw [State.module_setModule]) rfl rfl,
      State.setModule_setModule, State.setModule_settings, settings]
  · rw [baseline_of_key h, if_neg (by omega), State.countRangeError_eq, keyNoBaseline, State.updKey_of_key h]
  · have value : v.toNat ≤ 1 ∧ (v == 1) = x := by
      rcases hv with ⟨rfl, rfl⟩ | ⟨rfl, rfl⟩ <;> decide
    rw [baseline_of_key h, if_pos value.1, value.2]
    exact keyBaseline_of_key h hk hg hb
  · rw [baseline_of_encoder h, if_pos fits, encoderBaseline, State.updEncoder_of_encoder h]
  · rw [baseline_of_encoder h, if_neg (by omega), State.countRangeError_eq, clearSub, State.updEncoder_of_encoder h]
  · rw [← zoneFresh_eq] at hz
    rw [hz] at hk
    rw [baseline_of_level h, if_pos fits, levelBaseline_of_level h bound v.toNat hk, if_neg, hz]
    rw [State.hasUntaken_iff]
    rintro ⟨l, n, listed, hit⟩
    exact none_waits l n listed ((isLevelOf_iff i n).mp hit)
  · rw [← zoneFresh_eq] at hz
    rw [hz] at hk
    have some_waits : s.hasUntaken (isLevelOf i) = true := by
      rw [State.hasUntaken_iff]
      obtain ⟨l, n, listed, hit⟩ := waits
      exact ⟨l, n, listed, (isLevelOf_iff i n).mpr hit⟩
    have level : isLevelOf i = fun n => decide (n.index = some i ∧ n.kind = .level) := funext fun n => by
      rw [Bool.eq_iff_iff, isLevelOf_iff, decide_eq_true_iff]
    rw [baseline_of_level h, if_pos fits, levelBaseline_of_level h bound v.toNat hk, if_pos some_waits, hy, hz, level]
  · rw [baseline_of_level h, if_neg (by omega)]

end Sys2Proof.Machine

/-! # The service pass (O40) -/

namespace Sys2Proof.Machine

variable {s t e : State} {i : Nat} {m : ModuleIx} {l : Fin 8}

/-! ## What an owed element is given -/

theorem pushOwed_of_bound (h : s.bound i = some m) (k : NoticeKind) (v : Int) (z : Option Zone) (g : Flags) :
    pushOwed i k v z g s =
      s.pushNotice ⟨k, (s.element i).lane, m.val + 1, i - (s.module m).entry.base, v, z, g, some i⟩ := by
  rw [pushOwed, State.elementNotice_of_bound h]

theorem State.serviceFlags_of_bound (h : s.bound i = some m) : s.serviceFlags i =
    if (s.module m).state = .draining then { removed := true } else { resync := true } := by rw [State.serviceFlags, h]

section Key
variable {p : KeyParams} {c : KeyCtx}

theorem serveElement_of_both (h : (s.element i).control = .key p c) (bound : s.bound i = some m) (mode : p.mode = .both) :
    serveElement i s = State.setControl (s.pushNotice ⟨if c.closed then .press else .release, (s.element i).lane, m.val + 1,
      i - (s.module m).entry.base, 0, none, s.serviceFlags i, some i⟩) i (.key p { c with stale := false }) := by
  rw [serveElement, h]
  simp only [mode, pushOwed_of_bound bound]
  exact State.updKey_of_key (s := State.pushNotice _ s) h _

theorem serveElement_of_toggle (h : (s.element i).control = .key p c) (bound : s.bound i = some m) (mode : p.mode = .toggle) :
    serveElement i s = State.setControl (s.pushNotice ⟨.toggle, (s.element i).lane, m.val + 1, i - (s.module m).entry.base,
      if c.latched then 1 else 0, none, { resync := true }, some i⟩) i (.key p { c with stale := false }) := by
  rw [serveElement, h]
  simp only [mode, pushOwed_of_bound bound]
  exact State.updKey_of_key (s := State.pushNotice _ s) h _

theorem serveElement_of_pressOnly (h : (s.element i).control = .key p c) (mode : p.mode = .pressOnly) :
    serveElement i s = s.setControl i (.key p { c with stale := false }) := by
  rw [serveElement, h]
  simp only [mode]
  exact State.updKey_of_key h _

end Key

theorem serveElement_of_level {p : LevelParams} {c : LevelCtx} (h : (s.element i).control = .level p c)
    (bound : s.bound i = some m) : serveElement i s = State.setControl (s.pushNotice ⟨.level, (s.element i).lane, m.val + 1,
      i - (s.module m).entry.base, c.raw, some c.zone, { resync := true }, some i⟩) i
      (.level p { c with stale := false, lastGiven := some c.raw, held := none }) := by
  rw [serveElement, h]
  simp only [pushOwed_of_bound bound]
  exact State.updLevel_of_level (s := State.pushNotice _ s) h _

section Encoder
variable {p : EncoderParams} {c : EncoderCtx}

theorem serveElement_of_carry (h : (s.element i).control = .encoder p c) (bound : s.bound i = some m) (carry : c.carry ≠ 0) :
    serveElement i s = State.setControl (s.pushNotice ⟨.turn, (s.element i).lane, m.val + 1, i - (s.module m).entry.base,
      c.carry, none, { resync := true }, some i⟩) i (.encoder p { c with carry := 0, carryOwed := false }) := by
  rw [serveElement, h]
  simp only [if_neg carry, pushOwed_of_bound bound]
  exact State.updEncoder_of_encoder (s := State.pushNotice _ s) h _

theorem serveElement_of_no_carry (h : (s.element i).control = .encoder p c) (carry : c.carry = 0) :
    serveElement i s = s.setControl i (.encoder p { c with carry := 0, carryOwed := false }) := by
  rw [serveElement, h]
  dsimp only
  rw [if_pos carry]
  exact State.updEncoder_of_encoder h _

end Encoder

/-! ## The owed elements of a lane -/

theorem Table.above_iff {α : Type} (n : Nat) (t : List (Nat × α)) : Table.above n t = true ↔ ∀ p ∈ t, n < p.1 := by
  induction t with
  | nil => simp [Table.above]
  | cons p t ih => simp [Table.above, ih]

/-- The indices of a canonical table rise (log 20). -/
theorem Table.rising_of_wf {α : Type} [DecidableEq α] {d : α} {t : List (Nat × α)} (h : Table.wf d t = true) :
    t.Pairwise (fun p q => p.1 < q.1) := by
  induction t with
  | nil => exact .nil
  | cons p t ih =>
    simp only [Table.wf, Bool.and_eq_true] at h
    exact .cons ((Table.above_iff _ _).mp h.1.2) (ih h.2)

/-- A control that is owed a notice (R109). -/
theorem Control.isOwed_iff (k : Control) : k.isOwed = true ↔ (∃ p c, k = .key p c ∧ c.stale = true) ∨
    (∃ p c, k = .level p c ∧ c.stale = true) ∨ ∃ p c, k = .encoder p c ∧ c.carryOwed = true := by
  cases k <;> simp [Control.isOwed]

theorem State.mem_owedOn (table : s.tableOk) (l : Fin 8) (i : Nat) : i ∈ s.owedOn l ↔
    (s.element i).lane = l ∧ s.bound i ≠ none ∧ (s.element i).control.isOwed = true := by
  unfold State.owedOn
  rw [List.mem_map]
  constructor
  · rintro ⟨⟨j, x⟩, listed, rfl⟩
    obtain ⟨listed, owed⟩ := List.mem_filter.mp listed
    have read : s.element j = x := Table.get_of_mem table.1 listed
    simp only [Bool.and_eq_true, beq_iff_eq] at owed
    rw [read]
    exact ⟨owed.1.1, Option.isSome_iff_ne_none.mp owed.2, owed.1.2⟩
  · rintro ⟨lane, bound, owed⟩
    have listed : (i, s.element i) ∈ s.elements := State.mem_elements fun ignore => by
      rw [ignore] at owed; cases owed
    refine ⟨_, List.mem_filter.mpr ⟨listed, ?_⟩, rfl⟩
    simp only [Bool.and_eq_true, beq_iff_eq]
    exact ⟨⟨lane, owed⟩, Option.isSome_iff_ne_none.mpr bound⟩

theorem State.owedOn_rising (table : s.tableOk) (l : Fin 8) : (s.owedOn l).Pairwise (· < ·) :=
  List.pairwise_map.mpr ((Table.rising_of_wf table.1).filter _)

/-! ## One lane of the pass -/

theorem State.keyMode_eq_some_iff (s : State) (i : Nat) (mode : NoticeMode) : s.keyMode i = some mode ↔
    ∃ p c, (s.element i).control = .key p c ∧ p.mode = mode := by
  unfold State.keyMode
  cases (s.element i).control <;> simp

theorem serveLane_of_full {rest : List Nat} (full : 128 ≤ s.queued + s.noticeInFlight) : serveLane l (i :: rest) s = s :=
  if_pos ((State.freeSlots_eq_zero_iff s).mpr full)

/-- An owed element meets a pool with a free slot (R109). -/
theorem serveLane_of_slot {rest : List Nat} (slot : s.queued + s.noticeInFlight < 128) : serveLane l (i :: rest) s =
    if s.keyMode i = some .pressOnly then serveLane l rest (serveElement i s)
    else if s.serviceBlocked i = true then serveLane l rest s
    else if s.room l = true then serveLane l rest (serveElement i s)
    else s :=
  if_neg fun none_free => absurd ((State.freeSlots_eq_zero_iff s).mp none_free) (by omega)

theorem blockingKind_iff (k : Control) (x : NoticeKind) : blockingKind k x = true ↔
    (∃ p c, k = .key p c ∧ p.mode = .both ∧ (x = .press ∨ x = .release)) ∨
      (∃ p c, k = .key p c ∧ p.mode = .toggle ∧ x = .toggle) ∨
      (∃ p c, k = .encoder p c ∧ x = .turn) ∨ ∃ p c, k = .level p c ∧ x = .level := by
  cases k with
  | key p c => cases mode : p.mode <;> simp [blockingKind, mode]
  | _ => simp [blockingKind]

theorem State.serviceBlocked_iff (s : State) (i : Nat) : s.serviceBlocked i = true ↔
    ∃ k, ∃ n ∈ (s.lane k).fifo, s.isFor i n.kind n = true ∧ blockingKind (s.element i).control n.kind = true := by
  unfold State.serviceBlocked
  rw [List.any_eq_true]
  constructor
  · rintro ⟨k, -, hit⟩
    rw [Bool.and_eq_true, State.hasUntaken_iff] at hit
    obtain ⟨blocks, l, n, listed, isFor⟩ := hit
    have kind : n.kind = k := ((State.isFor_iff s i k n).mp isFor).2.1
    exact ⟨l, n, listed, kind ▸ isFor, kind ▸ blocks⟩
  · rintro ⟨l, n, listed, isFor, blocks⟩
    refine ⟨n.kind, ?_, ?_⟩
    · rcases (blockingKind_iff _ _).mp blocks with ⟨-, -, -, -, h | h⟩ | ⟨-, -, -, -, h⟩ | ⟨-, -, -, h⟩ | ⟨-, -, -, h⟩ <;>
        rw [h] <;> decide
    · rw [Bool.and_eq_true, State.hasUntaken_iff]
      exact ⟨blocks, l, n, listed, isFor⟩

/-- Settles O40: the service of each class, the order of a pass, and what ends a lane. -/
theorem serviceStatesTheCondition : Obligations.ServiceStatesTheCondition := by
  refine ⟨fun i s m bound => ⟨fun p c fl h mode hfl => ?_, fun p c h mode => serveElement_of_toggle h bound mode,
      fun p c h => serveElement_of_level h bound, fun p c h carry => serveElement_of_carry h bound carry,
      fun p c h carry => serveElement_of_no_carry h carry⟩,
    fun s => ⟨rfl, fun lost room => if_pos ⟨lost, room⟩, fun h => if_neg ?_, fun l table => ⟨State.owedOn_rising table l, fun i => ?_⟩⟩,
    fun l i rest s => ⟨rfl, serveLane_of_full, fun slot => ⟨fun p c h mode => ?_, fun other => ?_⟩, ?_⟩⟩
  · rw [serveElement_of_both h bound mode, State.serviceFlags_of_bound bound, hfl]
  · rintro ⟨lost, room⟩
    rcases h with none_lost | full
    · omega
    · rw [full] at room; cases room
  · rw [State.mem_owedOn table, Control.isOwed_iff]
  · rw [serveLane_of_slot slot, if_pos ((State.keyMode_eq_some_iff _ _ _).mpr ⟨p, c, h, mode⟩), serveElement_of_pressOnly h mode]
  · have not_pressOnly : ¬ s.keyMode i = some .pressOnly := by
      rw [State.keyMode_eq_some_iff]
      rintro ⟨p, c, h, mode⟩
      exact other p c h mode
    rw [serveLane_of_slot slot, if_neg not_pressOnly]
    refine ⟨fun blocked => if_pos blocked, fun clear room => ?_, fun clear full => ?_⟩
    · rw [if_neg (by rw [clear]; decide), if_pos room]
    · rw [if_neg (by rw [clear]; decide), if_neg (by rw [full]; decide)]
  · rw [State.serviceBlocked_iff]
    simp only [blockingKind_iff]

end Sys2Proof.Machine

/-! # The outbound path and the chain pace (O47, O48) -/

namespace Sys2Proof.Machine

variable {s t e : State} {i : Nat} {m : ModuleIx}

/-! ## The first of a numbered list -/

/-- The first number below `n` with a property. -/
theorem find_finRange_iff {n : Nat} (p : Fin n → Bool) (m : Fin n) :
    (List.finRange n).find? p = some m ↔ p m = true ∧ ∀ k < m, p k = false := by
  rw [List.find?_eq_some_iff_getElem]
  constructor
  · rintro ⟨hit, j, below, here, before⟩
    have place : m.val = j := by simp [← here]
    refine ⟨hit, fun k hk => ?_⟩
    simpa using before k.val (by rw [← place]; exact Fin.lt_def.mp hk)
  · rintro ⟨hit, before⟩
    refine ⟨hit, m.val, by simp, by simp, fun j hj => ?_⟩
    simpa using before ⟨j, by omega⟩ (Fin.lt_def.mpr hj)

theorem filter_finRange_of_first {n : Nat} {p : Fin n → Bool} {m : Fin n} (hit : p m = true) (before : ∀ k < m, p k = false) :
    ∃ rest, (List.finRange n).filter p = m :: rest := by
  have first := (find_finRange_iff p m).mpr ⟨hit, before⟩
  rw [← List.head?_filter] at first
  exact ⟨_, List.eq_cons_of_mem_head? first⟩

/-! ## The owed pass -/

theorem owedFrame_of_pace (owed : s.paceOwed = true) : owedFrame s = some { s with
    outbound := s.outbound ++ [⟨⟨6, 0, [s.chainPace.byte]⟩, false⟩], paceOwed := false } := by
  unfold owedFrame
  exact if_pos owed

theorem owedFrame_of_resync (no_pace : s.paceOwed = false) (owed : (s.module m).resyncOwed = true)
    (first : ∀ k < m, (s.module k).resyncOwed = false) : owedFrame s = some (State.setModule { s with
      outbound := s.outbound ++ [⟨⟨7, BitVec.ofNat 6 (m.val + 1), []⟩, false⟩] } m { s.module m with resyncOwed := false }) := by
  obtain ⟨rest, owed_list⟩ := filter_finRange_of_first (p := fun k => (s.module k).resyncOwed) owed first
  have resyncs : s.owedResyncs = m :: rest := owed_list
  rw [owedFrame, if_neg (by rw [no_pace]; decide), resyncs]
  rfl

theorem State.owedResyncs_eq_nil (none_owed : ∀ m, (s.module m).resyncOwed = false) : s.owedResyncs = [] :=
  List.filter_eq_nil_iff.mpr fun k _ => by rw [none_owed k]; decide

/-- The echo that an entry of the element table owes (R136). -/
def State.echoOf (s : State) (e : Nat × Element) : Option (Nat × ModuleIx × Fin 64 × Bool) :=
  match e.2.control, s.bound e.1 with
  | .key p c, some m =>
    match p.echo with
    | some n => if c.echoPending then some (e.1, m, n, c.echoBit) else none
    | none => none
  | _, _ => none

theorem State.owedEchoes_eq (s : State) : s.owedEchoes = s.elements.filterMap s.echoOf := rfl

theorem State.echoOf_eq_none_iff (s : State) (i : Nat) (x : Element) : s.echoOf (i, x) = none ↔
    ∀ p c, x.control = .key p c → c.echoPending = true → p.echo = none ∨ s.bound i = none := by
  unfold State.echoOf
  rcases x with ⟨lane, _ | ⟨p, c⟩ | ⟨p, c⟩ | ⟨p, c⟩ | w⟩ <;> try simp
  cases s.bound i with
  | none => simp
  | some m =>
    cases lamp : p.echo with
    | none => simp [lamp]
    | some n => simp [lamp]

theorem owedFrame_of_echo {p : KeyParams} {c : KeyCtx} {n : Fin 64} (table : s.tableOk) (no_pace : s.paceOwed = false)
    (no_resync : ∀ m, (s.module m).resyncOwed = false) (h : (s.element i).control = .key p c) (lamp : p.echo = some n)
    (bound : s.bound i = some m) (owed : c.echoPending = true)
    (first : ∀ j < i, ∀ q d, (s.element j).control = .key q d → d.echoPending = true → q.echo = none ∨ s.bound j = none) :
    owedFrame s = some ((pushIndicator m n c.echoBit i s).updKey i fun c => { c with echoPending := false }) := by
  have listed : (i, s.element i) ∈ s.elements := State.mem_elements fun ignore => by rw [h] at ignore; cases ignore
  obtain ⟨before, after, split⟩ := List.append_of_mem listed
  have rising := Table.rising_of_wf table.1
  rw [split, List.pairwise_append] at rising
  have none_before : before.filterMap s.echoOf = [] := by
    rw [List.filterMap_eq_nil_iff]
    rintro ⟨j, x⟩ hj
    have below : j < i := rising.2.2 _ hj _ List.mem_cons_self
    have read : s.element j = x := Table.get_of_mem table.1 (by rw [split]; exact List.mem_append_left _ hj)
    rw [State.echoOf_eq_none_iff, ← read]
    exact first j below
  have here : s.echoOf (i, s.element i) = some (i, m, n, c.echoBit) := by
    unfold State.echoOf
    simp only [h, bound, lamp, owed, if_true]
  have echoes : s.owedEchoes = (i, m, n, c.echoBit) :: after.filterMap s.echoOf := by
    rw [State.owedEchoes_eq, split, List.filterMap_append, none_before, List.nil_append, List.filterMap_cons_some here]
  rw [owedFrame, if_neg (by rw [no_pace]; decide), State.owedResyncs_eq_nil no_resync, echoes]

theorem owedFrame_of_nothing (table : s.tableOk) (no_pace : s.paceOwed = false)
    (no_resync : ∀ m, (s.module m).resyncOwed = false)
    (no_echo : ∀ i p c, (s.element i).control = .key p c → c.echoPending = true → p.echo = none ∨ s.bound i = none) :
    owedFrame s = none := by
  have echoes : s.owedEchoes = [] := by
    rw [State.owedEchoes_eq, List.filterMap_eq_nil_iff]
    rintro ⟨j, x⟩ hj
    have read : s.element j = x := Table.get_of_mem table.1 hj
    rw [State.echoOf_eq_none_iff, ← read]
    exact no_echo j
  rw [owedFrame, if_neg (by rw [no_pace]; decide), State.owedResyncs_eq_nil no_resync, echoes]

/-- The key a generated Indicator was requested for is not changed by it (R137). -/
theorem element_pushIndicator_self (s : State) (m : ModuleIx) (n : Fin 64) (on : Bool) (i : Nat) :
    (pushIndicator m n on i s).element i = s.element i :=
  ((lampQueued_pushIndicator s m n on i).2 i).2 fun ⟨_, _, _, _, _, _, _, _, _, other⟩ => other rfl

theorem owedPass_of_owedFrame (room : s.outbound.length < 32) (h : owedFrame s = some t) : owedPass s = owedPass t :=
  owedPass_of_frame room h (owedFrame_length h)

/-! ## The surface serializer -/

theorem exec_surfaceFrameStart (free : s.holding = false) :
    exec .surfaceFrameStart s = .next (settle ((surfaceStep s).getD s)) :=
  congrArg Host.Outcome.next (if_neg (by rw [free]; decide))

theorem requestPace_of_full (full : 32 ≤ s.outbound.length) : requestPace s = { s with paceOwed := true } :=
  if_neg (State.outboundRoom_of_full full)

theorem requestPace_of_room (room : s.outbound.length < 32) :
    requestPace s = { s with outbound := s.outbound ++ [⟨⟨6, 0, [s.chainPace.byte]⟩, false⟩] } :=
  if_pos ((State.outboundRoom_iff s).mpr room)

theorem requestResync_of_full (full : 32 ≤ s.outbound.length) (m : ModuleIx) :
    requestResync m s = s.setModule m { s.module m with resyncOwed := true } := if_neg (State.outboundRoom_of_full full)

theorem requestResync_of_room (room : s.outbound.length < 32) (m : ModuleIx) : requestResync m s =
    { s with outbound := s.outbound ++ [⟨⟨7, BitVec.ofNat 6 (m.val + 1), []⟩, false⟩] } :=
  if_pos ((State.outboundRoom_iff s).mpr room)

/-- Settles O47: the serializer, then the owed pass frame by frame. -/
theorem surfaceFrameIsSentAndOwedFollow : Obligations.SurfaceFrameIsSentAndOwedFollow := by
  refine ⟨fun s => ⟨fun free idle waits => ?_, fun busy => congrArg Host.Outcome.next (if_pos busy),
      fun idle => congrArg Host.Outcome.next (if_neg (by rw [idle]; decide)), fun free h => ?_⟩,
    fun s => ⟨fun full => owedPass_ends (.inr full), fun room => ⟨fun owed => owedPass_of_owedFrame room (owedFrame_of_pace owed),
      fun m no_pace owed first => owedPass_of_owedFrame room (owedFrame_of_resync no_pace owed first),
      fun table no_pace no_resync => ⟨fun i p c n m h lamp bound owed first => ?_, fun no_echo =>
        owedPass_ends (.inl (owedFrame_of_nothing table no_pace no_resync no_echo))⟩⟩⟩,
    fun m s => ⟨fun room => ⟨requestPace_of_room room, requestResync_of_room room m⟩,
      fun full => ⟨requestPace_of_full full, requestResync_of_full full m⟩, ?_⟩⟩
  · rw [exec_surfaceFrameStart free, surfaceStep, if_pos ⟨idle, waits⟩]
    rfl
  · rw [exec_surfaceFrameStart free, surfaceStep, if_neg]
    · rfl
    · rintro ⟨idle, waits⟩
      rcases h with busy | empty
      · rw [busy] at idle; cases idle
      · exact waits empty
  · refine ⟨pushIndicator m n c.echoBit i s, lampQueued_pushIndicator s m n c.echoBit i, ?_⟩
    rw [owedPass_of_owedFrame room (owedFrame_of_echo table no_pace no_resync h lamp bound owed first),
      State.updKey_of_key (by rw [element_pushIndicator_self, h])]
  · exact decide_eq_true_iff

/-! ## The chain pace -/

theorem State.keyBusy_eq_false_iff (s : State) (i : Nat) : s.keyBusy i = false ↔
    ∀ p c, (s.element i).control = .key p c → c.closed = false ∧ c.rawClosed = false := by
  unfold State.keyBusy
  cases (s.element i).control with
  | key p c =>
    rcases c with ⟨raw, closed, rest⟩
    cases raw <;> cases closed <;> simp [KeyCtx.phase]
  | _ => simp

/-- The conditions of the quiet rule (R141). -/
theorem State.isQuiet_iff (s : State) : s.isQuiet = true ↔
    0 < s.settings.quiet ∧ (∃ m, (s.module m).state = .active) ∧
      (∀ m, (s.module m).state = .active → s.settings.quiet ≤ (s.module m).emptyRun ∧
        ∀ i ∈ s.boundTo m, ∀ p c, (s.element i).control = .key p c → c.closed = false ∧ c.rawClosed = false) ∧
      s.stack = [] := by
  have active : ∀ m, m ∈ s.activeModules ↔ (s.module m).state = .active := fun m => by
    simp [State.activeModules, allModules, List.mem_finRange]
  have some_active : s.activeModules ≠ [] ↔ ∃ m, (s.module m).state = .active := by
    constructor
    · intro some_
      obtain ⟨m, listed⟩ := List.exists_mem_of_ne_nil _ some_
      exact ⟨m, (active m).mp listed⟩
    · rintro ⟨m, state⟩
      exact List.ne_nil_of_mem ((active m).mpr state)
  simp only [State.isQuiet, Bool.and_eq_true, decide_eq_true_eq, some_active, List.all_eq_true, active, Bool.not_eq_true',
    List.any_eq_false, Bool.not_eq_true, State.keyBusy_eq_false_iff, beq_iff_eq, and_assoc]

theorem toldApplied_of_brisk (pace : s.chainPace = .brisk) (slots : Bool) :
    toldApplied slots s = if s.isQuiet = true then requestPace (setChainPace .slow s) else s := by rw [toldApplied, pace]

theorem toldApplied_of_slow (pace : s.chainPace = .slow) (slots : Bool) :
    toldApplied slots s = if slots = true then requestPace (setChainPace .brisk s) else s := by rw [toldApplied, pace]

theorem setChainPace_brisk_of_slow (pace : s.chainPace = .slow) : setChainPace .brisk s = { s with chainPace := .brisk } := by
  unfold setChainPace
  rw [pace]

/-- Settles O48: the quiet rule and the activity rule. -/
theorem chainPaceFollowsItsRules : Obligations.ChainPaceFollowsItsRules := by
  refine fun slots s => ⟨fun brisk => ⟨fun quiet => ?_, fun busy => ?_⟩, fun slow => ⟨?_, ?_⟩, fun brisk => ⟨?_, ?_⟩⟩
  · rw [toldApplied_of_brisk brisk, if_pos ((State.isQuiet_iff s).mpr quiet)]
  · rw [toldApplied_of_brisk brisk, if_neg]
    rw [State.isQuiet_iff]
    rintro ⟨on, ⟨m, active⟩, all, stack⟩
    rcases busy with off | idle | serving | ⟨k, active_k, short | ⟨i, bound, p, c, h, closed⟩⟩
    · omega
    · exact idle m active
    · exact serving stack
    · have := (all k active_k).1
      omega
    · obtain ⟨opened, raw⟩ := (all k active_k).2 i bound p c h
      rw [opened, raw] at closed
      rcases closed with closed | closed <;> cases closed
  · rw [toldApplied_of_slow slow, setChainPace_brisk_of_slow slow]
  · rw [toldJoined, slow]
    exact congrArg requestPace (setChainPace_brisk_of_slow slow)
  · rw [toldJoined, brisk]
  · have changed := setChainPace_eq True s
    simpa [brisk] using changed

end Sys2Proof.Machine

/-! # Restarts (O23, O24) -/

namespace Sys2Proof.Machine

variable {s t e : State} {i : Nat} {m : ModuleIx}

/-! ## A service pass with nothing to serve -/

theorem servicePass_of_nothing_owed (lost : s.systemLost = 0) (owed : ∀ l, s.owedOn l = []) : servicePass s = s := by
  have overflow : serveOverflow s = s := if_neg (by omega)
  rw [servicePass, overflow]
  exact List.foldl_fixed' (fun l => by rw [owed l]; rfl) allLanes

theorem State.owedOn_eq_nil (h : ∀ p ∈ s.elements, p.2.control.isOwed = false) (l : Fin 8) : s.owedOn l = [] := by
  unfold State.owedOn
  rw [List.map_eq_nil_iff, List.filter_eq_nil_iff]
  intro p hp
  rw [h p hp]
  simp

theorem Control.isOwed_toIdle (c : Control) : c.toIdle.isOwed = false := by cases c <;> rfl

/-! ## The completion of a restart -/

theorem State.queued_of_empty (h : ∀ l, (s.lane l).fifo = []) : s.queued = 0 := by simp [State.queued, h]

/-- Where every lane is empty the Restarted notice is queued, and no pass has anything to serve (R111, R158). -/
theorem announce_of_empty (quota : 1 ≤ (s.lane 0).entry.quota) (empty : ∀ l, (s.lane l).fifo = [])
    (tx : s.consoleTx = none) (lost : s.systemLost = 0) (owed : ∀ p ∈ s.elements, p.2.control.isOwed = false) (cause : Cause) :
    announce cause s = State.pushNotice (.restarted cause.code) { s with resetCause := cause } := by
  have room : State.room { s with resetCause := cause } 0 = true := by
    rw [State.room_iff]
    have queued : State.queued { s with resetCause := cause } = 0 := State.queued_of_empty empty
    have flight : State.noticeInFlight { s with resetCause := cause } = 0 :=
      State.noticeInFlight_of_other fun n h => by rw [show s.consoleTx = _ from h] at tx; cases tx
    have count : (s.lane 0).fifo.length = 0 := by rw [empty]; rfl
    exact ⟨by show (s.lane 0).fifo.length < (s.lane 0).entry.quota; omega, by omega⟩
  rw [announce, notify_of_room (n := .restarted cause.code) room]
  exact servicePass_of_nothing_owed lost (State.owedOn_eq_nil owed)

/-- One entry of a table set, where the table with it is given entry by entry. -/
theorem set_eq_ofFn {α : Type} {n : Nat} {v : Vector α n} {f : Fin n → α} {l : Fin n} {x : α} (here : x = f l)
    (rest : ∀ k, k ≠ l → v[k] = f k) : v.set l x = Vector.ofFn f := by
  ext k hk
  by_cases same : l.val = k
  · subst same
    simpa using here
  · have other : (⟨k, hk⟩ : Fin n) ≠ l := fun h => same (congrArg Fin.val h).symm
    simpa [same] using rest ⟨k, hk⟩ other

/-! ## A cold restart -/

theorem completeCold_eq (free : s.powerReset = false) (cause : Cause) : completeCold cause (beginCold s) = s.coldStart cause := by
  have lanes : ∀ l, (beginCold s).lane l = .idle (.cold l) := beginCold_lane s
  rw [completeCold, announce_of_empty (by rw [lanes]; decide) (fun l => by rw [lanes]; rfl) rfl rfl (fun p hp => by cases hp)]
  have table : (beginCold s).lanes.set (0 : Fin 8) { (beginCold s).lane 0 with
      fifo := ((beginCold s).lane 0).fifo ++ [.restarted cause.code] } = Vector.ofFn fun l : Fin 8 =>
      (⟨⟨l.val, false, .plain, false, 16, 0⟩, if l = 0 then [.restarted cause.code] else [], 0, none, false⟩ : Lane) :=
    set_eq_ofFn (by rw [lanes]; rfl) fun k hk => (lanes k).trans (by rw [if_neg hk]; rfl)
  have begun : beginCold s = { State.blank with
      pauseIn := s.pauseIn, consoleRx := s.consoleRx, resetCause := s.resetCause, pending := s.pending } := by
    rw [beginCold, free]
    rfl
  unfold State.coldStart
  rw [← table, begun]
  rfl

theorem lane_coldStart (s : State) (cause : Cause) (l : Fin 8) : (s.coldStart cause).lane l =
    ⟨.cold l, if l = 0 then [.restarted cause.code] else [], 0, none, false⟩ := by
  simp [State.coldStart, State.lane, LaneEntry.cold]

/-- The one notice of a cold restart is what a selection offers. -/
theorem offer_coldStart (s : State) (cause : Cause) : (s.coldStart cause).offer = some 0 := by
  have only : ∀ l, (s.coldStart cause).eligible l = decide (l = 0) := fun l => by
    rw [Bool.eq_iff_iff, State.eligible_iff, lane_coldStart, decide_eq_true_iff]
    constructor
    · rintro ⟨waits, -⟩
      by_contra other
      exact waits (if_neg other)
    · rintro rfl
      exact ⟨by simp, rfl, Nat.zero_le _, fun k hk => by cases hk⟩
  unfold State.offer
  rw [List.filter_congr fun l _ => only l]
  rfl

theorem no_step_due_coldStart (s : State) (cause : Cause) : flushStep (s.coldStart cause) = none ∧
    slotStep (s.coldStart cause) = none ∧ executeStep (s.coldStart cause) = none ∧ surfaceStep (s.coldStart cause) = none :=
  ⟨rfl, rfl, rfl, rfl⟩

theorem settle_coldStart_paused (paused : s.pauseIn = true) (cause : Cause) :
    settle (s.coldStart cause) = s.coldStart cause := by
  refine settle_of_quiescent ((dueStep_eq_none_iff _).mpr fun _ => ⟨fun _ => rfl, fun _ h => (by cases h),
    fun _ _ h => (by cases h), fun _ go => ?_, .inr rfl⟩)
  rw [show (s.coldStart cause).pauseIn = s.pauseIn from rfl, paused] at go
  cases go

/-- With pause-in deasserted the Restarted notice is taken at once (R119, R158). -/
theorem settle_coldStart_unpaused (unpaused : s.pauseIn = false) (cause : Cause) :
    settle (s.coldStart cause) = { s.coldStart cause with
      lanes := State.blank.lanes, consoleTx := some (.notice (.restarted cause.code)) } := by
  have fifo : ((s.coldStart cause).lane 0).fifo = [.restarted cause.code] := by rw [lane_coldStart]; rfl
  have taken := takeOfANotice 0 (s.coldStart cause) _ (.restarted cause.code) [] fifo rfl
  have table : (s.coldStart cause).lanes.set (0 : Fin 8) { (s.coldStart cause).lane 0 with
      fifo := [], timer := if ((s.coldStart cause).lane 0).entry.mode = .held ∧ 0 < ((s.coldStart cause).lane 0).entry.limit then
        some ((s.coldStart cause).lane 0).entry.limit else ((s.coldStart cause).lane 0).timer } = State.blank.lanes := by
    refine set_eq_ofFn (by rw [lane_coldStart]; rfl) fun k hk => (lane_coldStart s cause k).trans ?_
    rw [if_neg hk]
    rfl
  have selected : selectStep (s.coldStart cause) = some { s.coldStart cause with
      lanes := State.blank.lanes, consoleTx := some (.notice (.restarted cause.code)) } := by
    have idle : (s.coldStart cause).pauseIn = false := unpaused
    rw [(selectionFollowsItsSteps.2 (s.coldStart cause) rfl idle).2.1 0 rfl (offer_coldStart s cause) (fun h => h.2.1 rfl), taken,
      if_pos (by rw [lane_coldStart]; exact Nat.zero_lt_succ 15), servicePass_of_nothing_owed rfl (State.owedOn_eq_nil fun p hp => by cases hp),
      ← table]
    rfl
  obtain ⟨no_flush, no_slot, no_execute, -⟩ := no_step_due_coldStart s cause
  rw [settle_of_due (dueStep_of_selectStep rfl no_flush no_slot no_execute selected)]
  refine settle_of_quiescent ((dueStep_eq_none_iff _).mpr fun _ => ⟨fun _ => rfl, fun _ h => (by cases h),
    fun _ _ h => (by cases h), fun busy => (by cases busy), .inr rfl⟩)

/-! ## A warm restart -/

/-- The modules with the resync-owed flags of the given ones set. -/
def State.owingResyncs (s : State) (ms : List ModuleIx) : Vector Module 62 :=
  Vector.ofFn fun m => { s.module m with resyncOwed := (s.module m).resyncOwed || ms.contains m }

theorem State.owingResyncs_nil (s : State) : s.owingResyncs [] = s.modules := by
  ext k hk
  simp [State.owingResyncs, State.module]

theorem State.owingResyncs_cons (s : State) (m : ModuleIx) (ms : List ModuleIx) :
    s.owingResyncs (m :: ms) = (s.setModule m { s.module m with resyncOwed := true }).owingResyncs ms := by
  unfold State.owingResyncs
  congr 1
  funext k
  by_cases same : k = m
  · subst same
    simp
  · rw [State.module_setModule_of_ne s same]
    simp [same]

/-- Resync Requests are queued while an entry is free, and owed from there on (R30, R135). -/
theorem foldl_requestResync (ms : List ModuleIx) (s : State) : ms.foldl (fun t m => requestResync m t) s = { s with
    outbound := s.outbound ++ (ms.take s.outboundFree).map fun m => ⟨⟨7, BitVec.ofNat 6 (m.val + 1), []⟩, false⟩
    modules := s.owingResyncs (ms.drop s.outboundFree) } := by
  induction ms generalizing s with
  | nil => simp [State.owingResyncs_nil]
  | cons m ms ih =>
    rw [List.foldl_cons]
    by_cases room : s.outbound.length < 32
    · obtain ⟨n, hn⟩ : ∃ n, s.outboundFree = n + 1 := ⟨31 - s.outbound.length, by
        simp only [State.outboundFree, Config.outboundEntries]; omega⟩
      have left : State.outboundFree { s with outbound := s.outbound ++ [⟨⟨7, BitVec.ofNat 6 (m.val + 1), []⟩, false⟩] } = n := by
        simp only [State.outboundFree, Config.outboundEntries, List.length_append, List.length_singleton] at hn ⊢
        omega
      rw [requestResync_of_room room, ih, left, hn]
      simp only [List.take_succ_cons, List.drop_succ_cons, List.map_cons, List.append_assoc, List.singleton_append]
      rfl
    · have full : s.outboundFree = 0 := by simp only [State.outboundFree, Config.outboundEntries]; omega
      have still : (s.setModule m { s.module m with resyncOwed := true }).outboundFree = 0 := full
      rw [requestResync_of_full (by omega), ih, still, full]
      simp only [List.take_zero, List.drop_zero, State.owingResyncs_cons]
      rfl

theorem warmReset_lane (s : State) (l : Fin 8) : s.warmReset.lane l = .idle (s.lane l).entry := by
  simp [State.warmReset, State.lane, Lane.idle]

theorem warmReset_module (s : State) (m : ModuleIx) : s.warmReset.module m = .idle (s.module m).entry := by
  simp [State.warmReset, State.module, Module.idle, OpenSweep.empty]

theorem beginWarm_eq (free : s.powerReset = false) : beginWarm s = s.warmReset := by
  unfold beginWarm beginCold State.warmReset
  rw [free]
  rfl

theorem waitingModules_warmReset (s : State) : s.warmReset.waitingModules = s.enabledModules := by
  refine List.filter_congr fun m _ => ?_
  rw [warmReset_module]
  cases on : (s.module m).entry.enabled <;> simp [Module.idle, on]

/-- The frames of a warm restart's completion, from an empty queue (R144). -/
theorem restartFrames_of_empty (empty : s.outbound = []) : restartFrames s = { s with
    outbound := ⟨⟨6, 0, [0]⟩, false⟩ :: (s.waitingModules.take 31).map fun m => ⟨⟨7, BitVec.ofNat 6 (m.val + 1), []⟩, false⟩
    modules := s.owingResyncs (s.waitingModules.drop 31) } := by
  have one : (s.pushOut (paceFrame .brisk) false).outbound = [⟨⟨6, 0, [0]⟩, false⟩] := by
    show s.outbound ++ [_] = _
    rw [empty]
    rfl
  have free : (s.pushOut (paceFrame .brisk) false).outboundFree = 31 := by rw [State.outboundFree, one]; rfl
  rw [restartFrames, foldl_requestResync, free, one]
  rfl

/-- The completion of a warm restart where every queue is empty (R144, R158). -/
theorem completeWarm_of_empty (quota : 1 ≤ (s.lane 0).entry.quota) (empty : ∀ l, (s.lane l).fifo = []) (out : s.outbound = [])
    (tx : s.consoleTx = none) (lost : s.systemLost = 0) (owed : ∀ p ∈ s.elements, p.2.control.isOwed = false) (cause : Cause) :
    completeWarm cause s = { s with
      resetCause := cause
      lanes := s.lanes.set (0 : Fin 8) { s.lane 0 with fifo := (s.lane 0).fifo ++ [.restarted cause.code] }
      outbound := ⟨⟨6, 0, [0]⟩, false⟩ :: (s.waitingModules.take 31).map fun m => ⟨⟨7, BitVec.ofNat 6 (m.val + 1), []⟩, false⟩
      modules := s.owingResyncs (s.waitingModules.drop 31) } := by
  have frames := restartFrames_of_empty out
  have lane : ∀ l, (restartFrames s).lane l = s.lane l := State.lane_congr (by rw [frames])
  rw [completeWarm, announce_of_empty (s := restartFrames s) (by rw [lane]; exact quota) (fun l => by rw [lane]; exact empty l)
    (by rw [frames]; exact tx) (by rw [frames]; exact lost) (by rw [frames]; exact owed)]
  show { restartFrames s with
    resetCause := cause
    lanes := (restartFrames s).lanes.set (0 : Fin 8) { (restartFrames s).lane 0 with
      fifo := ((restartFrames s).lane 0).fifo ++ [Notice.restarted cause.code] } } = _
  rw [lane, frames]

theorem owingResyncs_warmReset (s : State) (ms : List ModuleIx) : s.warmReset.owingResyncs ms = Vector.ofFn fun m =>
    { s.warmReset.module m with resyncOwed := ms.contains m } := by
  have clear : ∀ m, (s.warmReset.module m).resyncOwed = false := fun m => by rw [warmReset_module]; rfl
  simp only [State.owingResyncs, clear, Bool.false_or]

theorem owed_warmReset (s : State) : ∀ p ∈ s.warmReset.elements, p.2.control.isOwed = false := by
  intro p hp
  obtain ⟨q, -, rfl⟩ := List.mem_map.mp hp
  exact Control.isOwed_toIdle _

/-- A warm restart's completion queues its frames and the Restarted notice (R144, R158). -/
theorem completeWarm_eq (quota : 1 ≤ (s.lane 0).entry.quota) (cause : Cause) :
    completeWarm cause s.warmReset = s.warmStart cause := by
  have table : s.warmReset.lanes.set (0 : Fin 8) { s.warmReset.lane 0 with
      fifo := (s.warmReset.lane 0).fifo ++ [.restarted cause.code] } = Vector.ofFn fun l : Fin 8 =>
      (⟨(s.lane l).entry, if l = 0 then [.restarted cause.code] else [], 0, none, false⟩ : Lane) :=
    set_eq_ofFn (by rw [warmReset_lane]; rfl) fun k hk => (warmReset_lane s k).trans (by rw [if_neg hk]; rfl)
  rw [completeWarm_of_empty (by rw [warmReset_lane]; exact quota) (fun l => by rw [warmReset_lane]; rfl) rfl rfl rfl
    (owed_warmReset s), table, owingResyncs_warmReset, waitingModules_warmReset]
  rfl

/-! ## Restart requests -/

theorem route_request {tag code : Byte} {args : List Byte} (len : args.length ≤ 238) (s : State) :
    route .console ⟨8, 63, tag :: code :: args⟩ s = requestArrives tag code args s := by
  rw [route_console (by simp only [List.length_cons]; omega), if_pos rfl, routeOwn]
  exact if_pos rfl

theorem exec_request {tag code : Byte} {args : List Byte} (free : s.holding = false) (len : args.length ≤ 238)
    (he : e = endPartial .console s) : exec (.request tag code args) s = .next (settle (requestArrives tag code args e)) :=
  frameArrives_eq free he (route_request len e)

theorem requestArrives_of_room {tag code : Byte} {args : List Byte} {f : RestartForm} (room : s.requests.length < 4)
    (form : (Request.mk tag code args false).restartForm = some f) : requestArrives tag code args s = restart f s := by
  rw [requestArrives, if_pos room, form]

theorem exec_request_cold (free : s.holding = false) (room : s.requests.length < 4) (tag : Byte) :
    exec (.request tag 13 [0]) s = .next (settle (s.coldStart .coldRequest)) := by
  have reset : (endPartial .console s).powerReset = false :=
    State.powerReset_of_not_holding ((endPartial_holding .console s).trans free)
  rw [exec_request free (by simp) rfl, requestArrives_of_room (by rwa [endPartial_requests]) rfl]
  refine congrArg (fun t => Host.Outcome.next (settle t)) ((completeCold_eq reset .coldRequest).trans ?_)
  rcases endPartial_cases .console s with h | h <;> rw [h]
  rfl

theorem exec_request_warm (free : s.holding = false) (room : s.requests.length < 4) (quota : 1 ≤ (s.lane 0).entry.quota)
    (tag : Byte) : exec (.request tag 13 [1]) s = .next (settle (s.warmStart .warmRequest)) := by
  have reset : (endPartial .console s).powerReset = false :=
    State.powerReset_of_not_holding ((endPartial_holding .console s).trans free)
  have same : (endPartial .console s).warmReset = s.warmReset := by
    rcases endPartial_cases .console s with h | h <;> rw [h]
    rfl
  rw [exec_request free (by simp) rfl, requestArrives_of_room (by rwa [endPartial_requests]) rfl]
  refine congrArg (fun t => Host.Outcome.next (settle t)) ?_
  exact (congrArg (completeWarm .warmRequest) ((beginWarm_eq reset).trans same)).trans (completeWarm_eq quota .warmRequest)

/-- Settles O23: the restart of each form, and what a selection takes after a cold one. -/
theorem restartRequestsAreCarriedOut : Obligations.RestartRequestsAreCarriedOut :=
  ⟨fun tag _ free room => ⟨exec_request_cold free room tag, fun paused => settle_coldStart_paused paused _,
    fun unpaused => settle_coldStart_unpaused unpaused _⟩, fun tag _ free room quota => exec_request_warm free room quota tag⟩

/-! ## Link breaks and the power-on reset input -/

theorem holding_cases (free : s.holding = false) : s.powerReset = false ∧ s.detector ≠ .broken := by
  unfold State.holding at free
  cases reset : s.powerReset <;> simp [reset] at free ⊢
  exact free

/-- The end of a link break completes its restart (R16). -/
theorem lineReturns_warmReset (quota : 1 ≤ (s.lane 0).entry.quota) :
    lineReturns { s.warmReset with detector := .broken, consoleRx := .spacing } =
      settle { s.warmStart .linkBreak with consoleRx := .marking } := by
  rw [lineReturns_of_broken rfl]
  exact congrArg settle (completeWarm_eq (s := { s with consoleRx := .marking }) quota .linkBreak)

/-- Settles O24: a break holds its warm restart, and the reset input its cold one, until it ends. -/
theorem heldRestartsCompleteOnRelease : Obligations.HeldRestartsCompleteOnRelease := by
  refine ⟨fun s b free hb => ⟨?_, fun quota => ?_, ?_, rfl, ?_, rfl⟩, fun s r hr => ⟨?_, ?_, rfl, fun held => ?_, fun off => ?_, ?_,
    fun unpaused marking empty => ?_⟩⟩
  · refine congrArg Host.Outcome.next ((if_neg (by rw [free]; decide)).trans ?_)
    rw [breakDetected, beginWarm_eq (holding_cases free).1, hb]
  · rw [hb]
    exact ⟨congrArg Host.Outcome.next (lineReturns_warmReset quota), congrArg Host.Outcome.next (lineReturns_warmReset quota)⟩
  · rw [hb]
    rfl
  · exact if_neg fun broken => (holding_cases free).2 broken.1
  · rw [hr]
    rfl
  · rw [hr]
    rfl
  · exact congrArg Host.Outcome.next (if_pos held)
  · exact congrArg Host.Outcome.next (if_neg (by rw [off]; decide))
  · rw [hr]
    refine congrArg Host.Outcome.next ((if_pos rfl).trans (congrArg settle ?_))
    exact completeCold_eq (s := { s with powerReset := false }) rfl .powerOn
  · rw [settle_coldStart_unpaused unpaused]
    unfold State.coldStart
    rw [unpaused, marking, empty]
    rfl

end Sys2Proof.Machine

/-! # The request queue and its head (O12, O49) -/

namespace Sys2Proof.Machine

variable {s t e : State} {r : Request} {tag code : Byte} {args : List Byte} {why : Reason}

/-! ## Requests turned away -/

theorem restartForm_eq_none_iff (r : Request) : r.restartForm = none ↔ ¬ (r.code = 13 ∧ (r.args = [0] ∨ r.args = [1])) := by
  unfold Request.restartForm
  split
  · rename_i f number args
    have code : r.code = 13 := BitVec.eq_of_toNat_eq number
    rw [args]
    by_cases cold : f = 0
    · rw [if_pos cold, cold]
      exact iff_of_false (by simp) fun away => away ⟨code, .inl rfl⟩
    · by_cases warm : f = 1
      · rw [if_neg cold, if_pos warm, warm]
        exact iff_of_false (by simp) fun away => away ⟨code, .inr rfl⟩
      · rw [if_neg cold, if_neg warm]
        refine iff_of_true rfl fun form => ?_
        rcases form.2 with form | form <;> cases form
        exacts [cold rfl, warm rfl]
  · rename_i other
    refine iff_of_true rfl fun ⟨code, args⟩ => ?_
    rcases args with args | args <;> exact other _ (congrArg BitVec.toNat code) args

theorem turnedAway.plain (h : turnedAway r.code r.args why) : r.restartForm = none := by
  rw [restartForm_eq_none_iff]
  rintro ⟨code, args⟩
  rw [code] at h
  rcases h with ⟨outside, -⟩ | ⟨⟨n, length, other⟩, -⟩ | ⟨write, -⟩ | ⟨write, -⟩ | ⟨-, ⟨f, form, high⟩, -⟩
  · revert outside; decide
  · cases length
    rcases args with args | args <;> rw [args] at other <;> exact other rfl
  · revert write; decide
  · revert write; decide
  · rcases args with args | args <;> rw [args] at form <;> cases form <;> revert high <;> decide

/-- A code that is no request is refused (R18). -/
theorem carryOut_of_no_code (h : r.code = 0 ∨ 15 < r.code.toNat) (s : State) : carryOut r s = refuse r .badRequest s := by
  have outside : r.code.toNat = 0 ∨ 15 < r.code.toNat := h.imp (congrArg BitVec.toNat) id
  unfold carryOut
  split <;> first | omega | rfl

/-- A request whose length is not that of its code is refused (R18). -/
theorem carryOut_of_length {n : Nat} (plain : r.restartForm = none) (code : argumentLength r.code.toNat = some n)
    (other : r.args.length ≠ n) (s : State) : carryOut r s = refuse r .badRequest s := by
  unfold argumentLength at code
  split at code <;> cases code
  all_goals
    rename_i number
    simp only [carryOut, number]
    simp only [readStatus, readSettings, writeSettings, readModule, writeModule, readElement, readLane, writeLane, readProfile,
      writeProfile, readCounters, restartRequest, plain, controlCapture, captureRead]
    split
    · rename_i args
      exact absurd (congrArg List.length args) other
    · rfl

theorem paramLength_eq_none_iff (n : Nat) : paramLength n = none ↔ 4 < n := by
  rcases n with _ | _ | _ | _ | _ | n <;> simp [paramLength]

/-- A Write Element of a class above 4 is refused (R52, log 17). -/
theorem writeElement_of_class {c : Byte} (cls : r.args[2]? = some c) (high : 4 < c.toNat) (s : State) :
    writeElement r s = refuse r .badArgument s := by
  rcases r with ⟨tag, code, args, waited⟩
  rcases args with _ | ⟨a, _ | ⟨b, _ | ⟨x, _ | ⟨d, ps⟩⟩⟩⟩ <;> cases cls
  · exact if_pos high
  · exact show writeElementChecked _ _ c d ps s = _ by rw [writeElementChecked, (paramLength_eq_none_iff _).mpr high]

/-- A Write Element of a length that is not that of its class, or with no class byte, is refused (R52, log 17). -/
theorem writeElement_of_length (h : ∀ c, r.args[2]? = some c → c.toNat ≤ 4 ∧
    ∀ n, paramLength c.toNat = some n → r.args.length ≠ 4 + n) (s : State) : writeElement r s = refuse r .badRequest s := by
  rcases r with ⟨tag, code, args, waited⟩
  rcases args with _ | ⟨a, _ | ⟨b, _ | ⟨x, _ | ⟨d, ps⟩⟩⟩⟩
  · rfl
  · rfl
  · rfl
  · exact if_neg (by have := (h x rfl).1; omega)
  · obtain ⟨low, other⟩ := h x rfl
    refine show writeElementChecked _ _ x d ps s = _ from ?_
    unfold writeElementChecked
    split
    · rename_i none_
      have := (paramLength_eq_none_iff _).mp none_
      omega
    · rename_i n length
      have := other n length
      refine if_pos fun same => this ?_
      simp only [List.length_cons]
      omega

/-- What R18, R148 and R156 refuse ahead of any other check leaves the refusal and nothing else. -/
theorem carryOut_of_turnedAway (h : turnedAway r.code r.args why) (s : State) : carryOut r s = refuse r why s := by
  have plain := h.plain
  rcases h with ⟨outside, rfl⟩ | ⟨⟨n, length, other⟩, rfl⟩ | ⟨write, ⟨c, cls, high⟩, rfl⟩ | ⟨write, short, rfl⟩ |
    ⟨code, ⟨f, form, high⟩, rfl⟩
  · exact carryOut_of_no_code outside s
  · exact carryOut_of_length plain length other s
  · rcases r with ⟨tag, code, args, waited⟩
    cases write
    exact (carryOut_writeElement tag args waited s).trans (writeElement_of_class cls high s)
  · rcases r with ⟨tag, code, args, waited⟩
    cases write
    exact (carryOut_writeElement tag args waited s).trans (writeElement_of_length short s)
  · rcases r with ⟨tag, c, args, waited⟩
    dsimp only at code form
    subst code form
    rw [carryOut_restartRequest, restartRequest, plain]

/-! ## The arrival of a request -/

theorem requestArrives_of_full (full : 4 ≤ s.requests.length) (tag code : Byte) (args : List Byte) :
    requestArrives tag code args s = s.countRequestDrop := if_neg (by simp only [Config.requestEntries]; omega)

theorem requestArrives_joins (room : s.requests.length < 4) (plain : (Request.mk tag code args false).restartForm = none) :
    requestArrives tag code args s = { s with
      requests := s.requests ++ [⟨tag, code, args, decide (s.requests ≠ [])⟩] } := by
  rw [requestArrives, if_pos room, plain]
  rfl

/-- Settles O12: each row is its Request frame, and a request joins, is dropped, restarts, or is turned away. -/
theorem requestJoinsTheQueue : Obligations.RequestJoinsTheQueue := by
  refine ⟨fun tag a b c d e f x y ps s => ⟨rfl, rfl, rfl, rfl, rfl, rfl, rfl, rfl, rfl, rfl, rfl, rfl, rfl, rfl, rfl, rfl⟩,
    fun tag code args s e free len he => ⟨fun room plain => ?_, fun full => ?_, fun room hc ha => ?_, fun room hc ha quota => ?_,
      fun why idle away => ?_⟩⟩
  · have requests : e.requests = s.requests := by rw [he, endPartial_requests]
    rw [exec_request free len he, requestArrives_joins (by rwa [requests]) ((restartForm_eq_none_iff _).mpr plain)]
  · have requests : e.requests = s.requests := by rw [he, endPartial_requests]
    rw [exec_request free len he, requestArrives_of_full (by rwa [requests])]
    rfl
  · rw [hc, ha]
    exact exec_request_cold free room tag
  · rw [hc, ha]
    exact exec_request_warm free room quota tag
  · have away : turnedAway (Request.mk tag code args false).code (Request.mk tag code args false).args why := away
    exact exec_request_answered idle he len away.plain (carryOut_of_turnedAway away e) rfl rfl

/-! ## The request at the head -/

/-- That a request waited shows in Read Status only (R149). -/
theorem carryOut_waited (other : r.code ≠ 1) (w : Bool) (s : State) : carryOut { r with waited := w } s = carryOut r s := by
  rcases r with ⟨tag, code, args, waited⟩
  have not_status : code.toNat ≠ 1 := fun h => other (BitVec.eq_of_toNat_eq h)
  unfold carryOut
  dsimp only
  split
  · exact absurd ‹_› not_status
  all_goals rfl

/-- A request other than a Write Module leaves its answer (R146). -/
theorem carryOut_answers (plain : r.restartForm = none) (other : r.code ≠ 5) (s : State) :
    ∃ a, (carryOut r s).head = .awaitingSlot ⟨r.tag, r.code, a⟩ := by
  have not_write : r.code.toNat ≠ 5 := fun h => other (BitVec.eq_of_toNat_eq h)
  unfold carryOut
  split
  case h_16 => exact ⟨_, rfl⟩
  case h_5 => exact absurd ‹_› not_write
  case h_13 =>
    rw [restartRequest, plain]
    dsimp only
    split <;> exact ⟨_, rfl⟩
  all_goals
    simp only [readStatus, readSettings, writeSettings, readModule, readElement, writeElement, writeElementChecked, readLane,
      writeLane, readProfile, writeProfile, readCounters, controlCapture, captureRead]
    repeat' split
    all_goals exact ⟨_, rfl⟩

/-- Settles O49: the reply that waits, then what executing a request can read and leave. -/
theorem waitingReplyEnters : Obligations.WaitingReplyEnters := by
  refine ⟨fun s r free awaits => ⟨fun room => ?_, fun full => ?_⟩,
    fun s r rest free ready requests => settle_of_due (dueStep_of_ready free ready requests),
    fun s r plain => ⟨fun q x => ?_, fun w other => carryOut_waited other w s, ?_⟩, fun s r why away => carryOut_of_turnedAway away s⟩
  · refine congrArg Host.Outcome.next ((if_neg (by rw [free]; decide)).trans ?_)
    simp only [slotStep, awaits]
    rw [if_pos room]
    rfl
  · refine congrArg Host.Outcome.next ((if_neg (by rw [free]; decide)).trans ?_)
    simp only [slotStep, awaits]
    rw [if_neg (by simp only [Config.replyEntries]; omega)]
    rfl
  · exact carryOut_withQueues ((restartForm_eq_none_iff r).mpr plain) s (q, x)
  · have form := (restartForm_eq_none_iff r).mpr plain
    by_cases write : r.code = 5
    · rcases carryOut_cases r s with ⟨a, t, answered, -⟩ | ⟨m, x, t, flushing, -, active, -⟩ | ⟨f, restarts, -⟩
      · exact .inl ⟨a, by rw [answered]; rfl⟩
      · exact .inr ⟨write, m, x, by rw [flushing], active⟩
      · rw [form] at restarts; cases restarts
    · exact .inl (carryOut_answers form write s)

end Sys2Proof.Machine

/-! # The timebase (O25) -/

namespace Sys2Proof.Machine

variable {s t d : State} {m : ModuleIx}

/-! ## The count of a tick -/

theorem Timer.count_eq (t : Timer) : t.count = t.map (· - 1) := by cases t <;> rfl

theorem Control.count_eq (c : Control) : c.count = match c with
    | .key q c => .key q { c with timer := c.timer.map (· - 1) }
    | .level q c => .level q { c with timer := c.timer.map (· - 1) }
    | c => c := by
  cases c <;> simp only [Control.count, Timer.count_eq]

theorem countTimers_eq (s : State) : countTimers s = s.ticked := by
  have elements : ∀ p : Nat × Element, (p.1, { p.2 with control := p.2.control.count }) =
      (p.1, { p.2 with control := match p.2.control with
        | .key q c => .key q { c with timer := c.timer.map (· - 1) }
        | .level q c => .level q { c with timer := c.timer.map (· - 1) }
        | c => c }) := fun p => by rw [Control.count_eq]
  unfold countTimers State.mapControls State.ticked
  simp only [Timer.count_eq, mapAll_eq_ofFn, elements] <;> rfl

theorem ticked_lane (s : State) (l : Fin 8) : (s.ticked).lane l = { s.lane l with timer := (s.lane l).timer.map (· - 1) } := by
  simp [State.ticked, State.lane]

theorem ticked_module (s : State) (m : ModuleIx) :
    s.ticked.module m = { s.module m with watchdog := (s.module m).watchdog.map (· - 1) } := by
  simp [State.ticked, State.module]

theorem Control.toIdle_count (c : Control) : c.count.toIdle = c.toIdle := by cases c <;> rfl

/-- A break resets what the tick has counted (log 30). -/
theorem warmReset_ticked (s : State) : s.ticked.warmReset = s.warmReset := by
  have lanes : ∀ l, (s.ticked.lane l).entry = (s.lane l).entry := fun l => by rw [ticked_lane]
  have modules : ∀ m, (s.ticked.module m).entry = (s.module m).entry := fun m => by rw [ticked_module]
  have elements : s.ticked.elements.map (fun p => (p.1, { p.2 with control := p.2.control.toIdle })) =
      s.elements.map fun p => (p.1, { p.2 with control := p.2.control.toIdle }) := by
    rw [← countTimers_eq]
    show (s.elements.map fun p => (p.1, { p.2 with control := p.2.control.count })).map
      (fun p => (p.1, { p.2 with control := p.2.control.toIdle })) = _
    rw [List.map_map]
    exact List.map_congr_left fun p _ => by simp only [Function.comp_apply, Control.toIdle_count]
  unfold State.warmReset
  rw [elements]
  simp only [lanes, modules]
  rfl

/-! ## The expiries that are due -/

theorem State.dueWatchdogs_eq (s : State) :
    s.dueWatchdogs = (List.finRange 62).filter fun m => decide ((s.module m).watchdog = some 0) :=
  List.filter_congr fun m _ => by rw [Bool.eq_iff_iff, isDue_iff, decide_eq_true_iff]

theorem State.dueServices_eq (s : State) :
    s.dueServices = (List.finRange 8).filter fun l => decide ((s.lane l).timer = some 0) :=
  List.filter_congr fun l _ => by rw [Bool.eq_iff_iff, isDue_iff, decide_eq_true_iff]

theorem repeatTimer_isDue (c : Control) : c.repeatTimer.isDue = match c with
    | .key _ c => decide (c.timer = some 0)
    | _ => false := by
  cases c with
  | key p c => exact Bool.eq_iff_iff.mpr ((isDue_iff _).trans decide_eq_true_iff.symm)
  | _ => rfl

theorem paceTimer_isDue (c : Control) : c.paceTimer.isDue = match c with
    | .level _ c => decide (c.timer = some 0)
    | _ => false := by
  cases c with
  | level p c => exact Bool.eq_iff_iff.mpr ((isDue_iff _).trans decide_eq_true_iff.symm)
  | _ => rfl

theorem State.dueExpiries_eq (s : State) : s.dueExpiries =
    s.dueWatchdogs.map (fun m => .watchdogExpiry (BitVec.ofNat 6 (m.val + 1))) ++ s.dueRepeats.map .repeatTimerExpiry ++
      s.duePaces.map .paceTimerExpiry ++ s.dueServices.map .serviceTimerExpiry := by
  rw [State.dueWatchdogs_eq, State.dueServices_eq, State.dueRepeats, State.duePaces, List.map_map, List.map_map]
  simp only [repeatTimer_isDue, paceTimer_isDue]
  rfl

theorem moduleOf_bits (m : ModuleIx) : moduleOf (BitVec.ofNat 6 (m.val + 1)) = some m := by
  have := m.isLt
  rw [moduleOf, moduleOfNat_eq_some_iff, BitVec.toNat_ofNat]
  omega

theorem afterCommand_watchdogExpiry (m : ModuleIx) (s : State) :
    s.afterCommand (.watchdogExpiry (BitVec.ofNat 6 (m.val + 1))) = expireWatchdog m s := by
  simp only [State.afterCommand, exec, execWatchdogExpiry, moduleOf_bits]

theorem takeDue_eq (s : State) : takeDue s = s.dueExpiries.foldl State.afterCommand s := by
  rw [State.dueExpiries_eq]
  simp only [List.foldl_append, List.foldl_map, afterCommand_watchdogExpiry]
  rfl

theorem takeDue_of_noneDue (h : s.noneDue) : takeDue s = s := by
  obtain ⟨watchdogs, services, timers⟩ := h
  have none_watchdog : s.dueWatchdogs = [] := List.filter_eq_nil_iff.mpr fun m _ => by
    rw [isDue_iff]; exact watchdogs m
  have none_repeat : s.dueRepeats = [] := List.map_eq_nil_iff.mpr (List.filter_eq_nil_iff.mpr fun p hp => by
    rw [isDue_iff]; exact (timers p hp).1)
  have none_pace : s.duePaces = [] := List.map_eq_nil_iff.mpr (List.filter_eq_nil_iff.mpr fun p hp => by
    rw [isDue_iff]; exact (timers p hp).2)
  have none_service : s.dueServices = [] := List.filter_eq_nil_iff.mpr fun l _ => by
    rw [isDue_iff]; exact services l
  rw [takeDue, none_watchdog, none_repeat, none_pace, none_service]
  rfl

theorem tick_spacing (free : s.powerReset = false) :
    exec (.tick .spacing) s = .next (detectSpacing (takeDue s).ticked) := by
  refine congrArg Host.Outcome.next ((if_neg (by rw [free]; decide)).trans ?_)
  rw [countTimers_eq]

/-- Settles O25: the expiries, the count, and the detector by its state. -/
theorem tickCountsAndWatchesTheLine : Obligations.TickCountsAndWatchesTheLine := by
  refine ⟨fun s d free hd => ⟨fun none_due => hd.trans (takeDue_of_noneDue none_due), ⟨lineReturns s, rfl, ?_⟩,
      fun clear => ?_, fun seen => ?_, fun broken => ?_⟩,
    fun s => ⟨fun clear => ?_, fun seen => ?_, rfl, fun reset => ⟨?_, ?_⟩, takeDue_eq s⟩, fun c => ⟨?_, ?_⟩⟩
  · refine congrArg Host.Outcome.next ((if_neg (by rw [free]; decide)).trans ?_)
    rw [countTimers_eq]
  · rw [tick_spacing free, ← hd, detectSpacing_of_clear (s := d.ticked) clear]
  · have reset : d.ticked.powerReset = false := by rw [hd]; exact takeDue_powerReset free
    rw [tick_spacing free, ← hd, detectSpacing_of_spacingSeen (s := d.ticked) seen, breakDetected, beginWarm_eq reset, warmReset_ticked]
  · rw [tick_spacing free, ← hd, detectSpacing_of_broken (s := d.ticked) broken]
  · exact congrArg Host.Outcome.next (lineReturns_of_clear clear)
  · exact congrArg Host.Outcome.next (lineReturns_of_spacingSeen seen)
  · exact congrArg Host.Outcome.next (if_pos reset)
  · exact congrArg Host.Outcome.next (if_pos reset)
  · cases c <;> rfl
  · cases c <;> rfl

end Sys2Proof.Machine

/-! # Write Module is checked (O16) -/

namespace Sys2Proof.Machine

variable {s e : State} {tag : Byte} {m : ModuleIx}

/-! ## Bindings and overlaps -/

theorem ModuleEntry.binds_iff (x : ModuleEntry) (i : Nat) :
    x.binds i = true ↔ x.enabled = true ∧ x.base ≤ i ∧ i < x.base + x.count := by
  simp [ModuleEntry.binds]

theorem ModuleEntry.meets_iff {x y : ModuleEntry} (hx : 1 ≤ x.count) (hy : 1 ≤ y.count) :
    x.meets y = true ↔ ∃ j, x.base ≤ j ∧ j < x.base + x.count ∧ y.base ≤ j ∧ j < y.base + y.count := by
  simp only [ModuleEntry.meets, Bool.and_eq_true, decide_eq_true_eq]
  exact ⟨fun _ => ⟨max x.base y.base, by omega⟩, fun ⟨_, _⟩ => by omega⟩

theorem State.overlaps_iff {x : ModuleEntry} (hx : 1 ≤ x.count) (hs : ∀ k, 1 ≤ (s.module k).entry.count) :
    s.overlaps m x = true ↔ x.enabled = true ∧ ∃ k j, k ≠ m ∧ (s.module k).entry.enabled = true ∧
      (s.module k).entry.base ≤ j ∧ j < (s.module k).entry.base + (s.module k).entry.count ∧
      x.base ≤ j ∧ j < x.base + x.count := by
  simp only [State.overlaps, allModules, Bool.and_eq_true, List.any_eq_true, List.mem_finRange, true_and, bne_iff_ne, ne_eq,
    ModuleEntry.meets_iff (hs _) hx, and_assoc, exists_and_left]

theorem State.overlaps_of_shared {x : ModuleEntry} {k : ModuleIx} {j : Nat} (on : x.enabled = true) (other : k ≠ m)
    (enabled : (s.module k).entry.enabled = true) (here : (s.module k).entry.base ≤ j)
    (below : j < (s.module k).entry.base + (s.module k).entry.count) (there : x.base ≤ j) (under : j < x.base + x.count) :
    s.overlaps m x = true := by
  have meets : (s.module k).entry.meets x = true := by
    simp only [ModuleEntry.meets, Bool.and_eq_true, decide_eq_true_eq]
    omega
  simp only [State.overlaps, on, Bool.true_and, List.any_eq_true]
  exact ⟨k, List.mem_finRange k, by simp [other, enabled, meets]⟩

theorem State.bound_eq_some_iff (s : State) (i : Nat) (m : ModuleIx) :
    s.bound i = some m ↔ (s.module m).entry.binds i = true ∧ ∀ k < m, (s.module k).entry.binds i = false :=
  find_finRange_iff _ m

theorem State.bound_eq_none_iff (s : State) (i : Nat) : s.bound i = none ↔ ∀ k, (s.module k).entry.binds i = false := by
  simp [State.bound, allModules]

/-! ## The two requests -/

theorem module_bytes_eq (x : Module) : x.bytes = [if x.entry.enabled then 1 else 0] ++ twoBytes x.entry.base ++
    [BitVec.ofNat 8 x.entry.count, x.state.code, if x.lastApplied = none then 0 else 1, x.lastApplied.getD 0] ++
    twoBytes x.rejected ++ twoBytes x.gaps ++ twoBytes x.duplicates ++ [if x.paceView = .brisk then 0 else 1] := by
  cases applied : x.lastApplied <;> simp [Module.bytes, flagByte, twoBytes_eq, paceByte_eq, applied]

theorem carryOut_writeModule_eq (a enabled count : Byte) (base : Word) (w : Bool) (s : State) :
    carryOut ⟨tag, 5, [a, enabled] ++ wordBytes base ++ [count], w⟩ s =
      match moduleOfNat a.toNat, moduleEntryOf enabled base count with
      | some m, some x =>
        if s.overlaps m x then refuse ⟨tag, 5, [a, enabled] ++ wordBytes base ++ [count], w⟩ .overlap s
        else carryWriteModule ⟨tag, 5, [a, enabled] ++ wordBytes base ++ [count], w⟩ m x s
      | _, _ => refuse ⟨tag, 5, [a, enabled] ++ wordBytes base ++ [count], w⟩ .badArgument s := by
  rw [carryOut_writeModule]
  simp only [writeModule, wordBytes, List.cons_append, List.nil_append, wordOf_hiByte_loByte] <;> rfl

theorem isYes_eq (b : Byte) : isYes b = (b != 0) := rfl

theorem moduleEntryOf_of_fields {enabled count : Byte} {base : Word} (low : 1 ≤ count.toNat) (high : count.toNat ≤ 64)
    (sum : base.toNat + count.toNat ≤ 1024) : moduleEntryOf enabled base count = some ⟨enabled != 0, base.toNat, count.toNat⟩ :=
  if_pos ⟨by omega, low, high, sum⟩

/-- A Write Module whose fields are in range, by the entry it carries. -/
theorem carryOut_writeModule_of_fields {a enabled count : Byte} {base : Word} {x : ModuleEntry} (ha : a.toNat = m.val + 1)
    (low : 1 ≤ count.toNat) (high : count.toNat ≤ 64) (sum : base.toNat + count.toNat ≤ 1024)
    (hx : x = ⟨enabled != 0, base.toNat, count.toNat⟩) (w : Bool) (s : State) :
    carryOut ⟨tag, 5, [a, enabled] ++ wordBytes base ++ [count], w⟩ s =
      if s.overlaps m x then refuse ⟨tag, 5, [a, enabled] ++ wordBytes base ++ [count], w⟩ .overlap s
      else carryWriteModule ⟨tag, 5, [a, enabled] ++ wordBytes base ++ [count], w⟩ m x s := by
  rw [carryOut_writeModule_eq, (moduleOfNat_eq_some_iff _ _).mpr ha, moduleEntryOf_of_fields low high sum, hx]

theorem carryOut_writeModule_outside {a enabled count : Byte} {base : Word}
    (out : a.toNat = 0 ∨ 62 < a.toNat ∨ 1023 < base.toNat ∨ count.toNat = 0 ∨ 64 < count.toNat ∨
      1024 < base.toNat + count.toNat) (w : Bool) (s : State) :
    carryOut ⟨tag, 5, [a, enabled] ++ wordBytes base ++ [count], w⟩ s =
      refuse ⟨tag, 5, [a, enabled] ++ wordBytes base ++ [count], w⟩ .badArgument s := by
  rw [carryOut_writeModule_eq]
  split
  · rename_i m x address entry
    have number := (moduleOfNat_eq_some_iff _ _).mp address
    have := m.isLt
    unfold moduleEntryOf at entry
    split at entry
    · omega
    · cases entry
  · rfl

/-- Settles O16: the checks of a Write Module, by the fields, the overlap and the present entry. -/
theorem moduleRequestsAreChecked : Obligations.ModuleRequestsAreChecked := by
  refine ⟨fun tag a s e idle he => ⟨fun m ha => ?_, fun out => ?_⟩,
    fun tag a enabled base count s e idle he => ⟨fun out => ?_, fun m ha low high sum => ⟨?_, fun apart same => ?_⟩⟩,
    fun m x i s => ⟨fun hx hs => State.overlaps_iff hx hs, x.binds_iff i, s.bound_eq_some_iff i m, s.bound_eq_none_iff i,
      rfl, fun a => moduleOfNat_eq_some_iff _ _, fun y => ⟨rfl, rfl⟩⟩, rfl, rfl, rfl, rfl, rfl⟩
  · refine exec_request_kept idle he (by simp) (by decide) ?_
    rw [carryOut_readModule, ← module_bytes_eq]
    simp only [readModule, (moduleOfNat_eq_some_iff _ _).mpr ha]
  · refine exec_request_kept idle he (by simp) (by decide) ?_
    rw [carryOut_readModule]
    simp only [readModule, moduleOfNat_of_outside out]
    rfl
  · exact exec_request_kept (code := 5) idle he (by simp [wordBytes]) (by decide) (carryOut_writeModule_outside out _ _)
  · rintro ⟨on, k, j, other, running, here, below, there, under⟩
    have shared : e.overlaps m ⟨enabled != 0, base.toNat, count.toNat⟩ = true :=
      State.overlaps_of_shared (by simpa using on) other running here below there under
    have carried := carryOut_writeModule_of_fields (tag := tag) (enabled := enabled) ha low high sum rfl false e
    rw [if_pos shared] at carried
    exact exec_request_kept (code := 5) idle he (by simp [wordBytes]) (by decide) carried
  · have carried := carryOut_writeModule_of_fields (tag := tag) (enabled := enabled) ha low high sum rfl false e
    rw [if_neg (by rw [apart]; decide), carryWriteModule, if_pos same] at carried
    exact exec_request_kept (code := 5) idle he (by simp [wordBytes]) (by decide) carried

end Sys2Proof.Machine

/-! # Records read as written (O21) -/

namespace Sys2Proof.Machine

/-! ## Codes -/

/-- The byte of a notice mode (R17). -/
def noticeModeByte : NoticeMode → Byte
  | .both => 0
  | .pressOnly => 1
  | .toggle => 2

/-- The byte of an echo mode (R17). -/
def echoModeByte : EchoMode → Byte
  | .follow => 0
  | .latch => 1

/-- The byte of a resolution (R17). -/
def resolutionByte : Resolution → Byte
  | .fine => 0
  | .half => 1
  | .coarse => 2

/-- The byte of a profile or an indicator, 255 for none (R17). -/
def nameByte {n : Nat} : Option (Fin n) → Byte
  | none => 255
  | some k => BitVec.ofNat 8 k.val

theorem paramBytes_key (p : KeyParams) (c : KeyCtx) : (Control.key p c).paramBytes =
    [BitVec.ofNat 8 p.debounceDown, BitVec.ofNat 8 p.debounceUp, noticeModeByte p.mode, nameByte p.profile, nameByte p.echo,
      echoModeByte p.echoMode] := by
  rcases p with ⟨down, up, mode, profile, echo, echoMode⟩
  cases mode <;> cases profile <;> cases echo <;> cases echoMode <;> rfl

theorem paramBytes_encoder (p : EncoderParams) (c : EncoderCtx) : (Control.encoder p c).paramBytes =
    [resolutionByte p.resolution, flagByte p.invert, BitVec.ofNat 8 p.limit, BitVec.ofNat 8 p.threshold,
      BitVec.ofNat 8 p.factor] := by
  rcases p with ⟨resolution, _, _, _, _⟩
  cases resolution <;> rfl

theorem byte_eq_of_toNat {b : Byte} {n : Nat} (h : b.toNat = n) : b = BitVec.ofNat 8 n := by
  rw [← h, BitVec.ofNat_toNat, BitVec.setWidth_eq]

theorem ofNat_toNat_byte (b : Byte) : BitVec.ofNat 8 b.toNat = b := (byte_eq_of_toNat rfl).symm

theorem noticeModeOf_eq_some {b : Byte} {m : NoticeMode} (h : noticeModeOf b = some m) :
    b = noticeModeByte m := by
  unfold noticeModeOf at h
  split at h <;> cases h <;> exact byte_eq_of_toNat ‹_›

theorem echoModeOf_eq_some {b : Byte} {m : EchoMode} (h : echoModeOf b = some m) :
    b = echoModeByte m := by
  unfold echoModeOf at h
  split at h <;> cases h <;> exact byte_eq_of_toNat ‹_›

theorem resolutionOf_eq_some {b : Byte} {r : Resolution} (h : resolutionOf b = some r) :
    b = resolutionByte r := by
  unfold resolutionOf at h
  split at h <;> cases h <;> exact byte_eq_of_toNat ‹_›

theorem namedOrNone_eq_some {n : Nat} {b : Byte} {x : Option (Fin n)} (h : namedOrNone n b = some x) :
    b = nameByte x := by
  unfold namedOrNone at h
  split at h
  · cases h; exact byte_eq_of_toNat rfl
  · split at h <;> cases h
    assumption

theorem namedOrNone_nameByte {n : Nat} (x : Option (Fin n)) (h : n ≤ 255) : namedOrNone n (nameByte x) = some x := by
  unfold namedOrNone
  cases x with
  | none => rw [nameByte, dif_neg (show ¬ (255 : Byte).toNat < n from Nat.not_lt.mpr h), if_pos rfl]
  | some k =>
    have number : (BitVec.ofNat 8 k.val).toNat = k.val := Nat.mod_eq_of_lt (by omega)
    rw [nameByte, dif_pos (by rw [number]; exact k.isLt)]
    simp only [number]

theorem isYes_flagByte (b : Bool) : isYes (flagByte b) = b := by cases b <;> rfl

theorem flagByte_isYes (b : Byte) : flagByte (isYes b) = if b = 0 then 0 else 1 := by
  by_cases zero : b = 0 <;> simp [flagByte, isYes, zero]

theorem isYes_of_ne_zero {b : Byte} (h : b ≠ 0) : isYes b = isYes 1 := bne_iff_ne.mpr h

theorem ofNat_byte_toNat {n : Nat} (h : n ≤ 255) : (BitVec.ofNat 8 n).toNat = n := Nat.mod_eq_of_lt (by omega)

theorem natBytes_wordOf {n : Nat} (h : n < 65536) : ∃ a b : Byte, natBytes n = [a, b] ∧ (wordOf a b).toNat = n :=
  ⟨_, _, rfl, by rw [wordOf_hiByte_loByte]; exact Nat.mod_eq_of_lt h⟩

/-! ## Parameter parts -/

theorem keyParamsOf_of_fields {d u m r e w : Byte} {mode : NoticeMode} {profile : Option (Fin 8)} {echo : Option (Fin 64)}
    {echoMode : EchoMode} (hm : noticeModeOf m = some mode) (hr : namedOrNone 8 r = some profile)
    (he : namedOrNone 64 e = some echo) (hw : echoModeOf w = some echoMode) (down : d.toNat ≤ 15) (up : u.toNat ≤ 15) :
    keyParamsOf d u m r e w = some ⟨d.toNat, u.toNat, mode, profile, echo, echoMode⟩ := by
  unfold keyParamsOf
  rw [hm, hr, he, hw]
  exact if_pos ⟨down, up⟩

theorem encoderParamsOf_of_fields {r i l t f : Byte} {resolution : Resolution} (hr : resolutionOf r = some resolution)
    (low : 1 ≤ l.toNat) (high : l.toNat ≤ 127) (threshold : t.toNat ≤ 4) (least : 2 ≤ f.toNat) (most : f.toNat ≤ 8) :
    encoderParamsOf r i l t f = some ⟨resolution, isYes i, l.toNat, t.toNat, f.toNat⟩ := by
  unfold encoderParamsOf
  rw [hr]
  exact if_pos ⟨low, high, threshold, least, most⟩

theorem keyParamsOf_bytes {p : KeyParams} (down : p.debounceDown ≤ 15) (up : p.debounceUp ≤ 15) (c : KeyCtx) :
    controlOf 1 (Control.key p c).paramBytes = some (.key p .idle) := by
  rcases p with ⟨d, u, mode, profile, echo, echoMode⟩
  dsimp only at down up
  have mode_read : noticeModeOf (noticeModeByte mode) = some mode := by cases mode <;> rfl
  have echoMode_read : echoModeOf (echoModeByte echoMode) = some echoMode := by cases echoMode <;> rfl
  have down_read : (BitVec.ofNat 8 d).toNat = d := ofNat_byte_toNat (by omega)
  have up_read : (BitVec.ofNat 8 u).toNat = u := ofNat_byte_toNat (by omega)
  have read := keyParamsOf_of_fields (d := BitVec.ofNat 8 d) (u := BitVec.ofNat 8 u) mode_read
    (namedOrNone_nameByte profile (by decide)) (namedOrNone_nameByte echo (by decide)) echoMode_read (by omega) (by omega)
  rw [down_read, up_read] at read
  rw [paramBytes_key]
  exact congrArg (Option.map fun p => Control.key p .idle) read

theorem encoderParamsOf_bytes {p : EncoderParams} (low : 1 ≤ p.limit) (high : p.limit ≤ 127) (threshold : p.threshold ≤ 4)
    (least : 2 ≤ p.factor) (most : p.factor ≤ 8) (c : EncoderCtx) :
    controlOf 2 (Control.encoder p c).paramBytes = some (.encoder p .idle) := by
  rcases p with ⟨resolution, invert, limit, t, factor⟩
  dsimp only at low high threshold least most
  have resolution_read : resolutionOf (resolutionByte resolution) = some resolution := by cases resolution <;> rfl
  have limit_read : (BitVec.ofNat 8 limit).toNat = limit := ofNat_byte_toNat (by omega)
  have threshold_read : (BitVec.ofNat 8 t).toNat = t := ofNat_byte_toNat (by omega)
  have factor_read : (BitVec.ofNat 8 factor).toNat = factor := ofNat_byte_toNat (by omega)
  have read := encoderParamsOf_of_fields (i := flagByte invert) (l := BitVec.ofNat 8 limit) (t := BitVec.ofNat 8 t)
    (f := BitVec.ofNat 8 factor) resolution_read (by omega) (by omega) (by omega) (by omega) (by omega)
  rw [limit_read, threshold_read, factor_read, isYes_flagByte] at read
  rw [paramBytes_encoder]
  exact congrArg (Option.map fun p => Control.encoder p .idle) read

theorem levelParamsOf_bytes {p : LevelParams} (deadband : p.deadband ≤ 255) (pace : p.pace ≤ 1000) (order : p.low ≤ p.high)
    (high : p.high ≤ 1023) (c : LevelCtx) : controlOf 3 (Control.level p c).paramBytes = some (.level p .idle) := by
  obtain ⟨p1, p0, pace_bytes, pace_read⟩ := natBytes_wordOf (n := p.pace) (by omega)
  obtain ⟨l1, l0, low_bytes, low_read⟩ := natBytes_wordOf (n := p.low) (by omega)
  obtain ⟨h1, h0, high_bytes, high_read⟩ := natBytes_wordOf (n := p.high) (by omega)
  have bytes : (Control.level p c).paramBytes = [BitVec.ofNat 8 p.deadband, p1, p0, l1, l0, h1, h0, flagByte p.zones] := by
    rw [Control.paramBytes, pace_bytes, low_bytes, high_bytes]
    rfl
  rw [bytes]
  refine congrArg (Option.map fun p => Control.level p .idle) (?_ : levelParamsOf _ _ _ _ _ = some _)
  unfold levelParamsOf
  rw [pace_read, low_read, high_read, ofNat_byte_toNat deadband, isYes_flagByte]
  exact if_pos ⟨pace, by omega, high, order⟩

theorem paramBytes_of_key {d u m r e w : Byte} {p : KeyParams} (h : keyParamsOf d u m r e w = some p) (c : KeyCtx) :
    (Control.key p c).paramBytes = [d, u, m, r, e, w] := by
  unfold keyParamsOf at h
  split at h
  · rename_i mode profile echo echoMode
    split at h
    · cases h
      rw [paramBytes_key, ofNat_toNat_byte, ofNat_toNat_byte, ← noticeModeOf_eq_some mode, ← namedOrNone_eq_some profile,
        ← namedOrNone_eq_some echo, ← echoModeOf_eq_some echoMode]
    · cases h
  · cases h

theorem paramBytes_of_encoder {r i l t f : Byte} {p : EncoderParams} (h : encoderParamsOf r i l t f = some p)
    (c : EncoderCtx) : (Control.encoder p c).paramBytes = [r, if i = 0 then 0 else 1, l, t, f] := by
  unfold encoderParamsOf at h
  split at h
  · rename_i resolution
    split at h
    · cases h
      rw [paramBytes_encoder, flagByte_isYes, ofNat_toNat_byte, ofNat_toNat_byte, ofNat_toNat_byte,
        ← resolutionOf_eq_some resolution]
    · cases h
  · cases h

theorem natBytes_wordOf_toNat (a b : Byte) : natBytes (wordOf a b).toNat = [a, b] := by
  rw [natBytes_toNat, wordBytes, hiByte_wordOf, loByte_wordOf]

theorem paramBytes_of_level {d p1 p0 l1 l0 h1 h0 z : Byte} {p : LevelParams}
    (h : levelParamsOf d (wordOf p1 p0) (wordOf l1 l0) (wordOf h1 h0) z = some p) (c : LevelCtx) :
    (Control.level p c).paramBytes = [d, p1, p0, l1, l0, h1, h0, if z = 0 then 0 else 1] := by
  unfold levelParamsOf at h
  split at h
  · cases h
    rw [Control.paramBytes, natBytes_wordOf_toNat, natBytes_wordOf_toNat, natBytes_wordOf_toNat, flagByte_isYes,
      ofNat_toNat_byte]
    rfl
  · cases h

/-- A parameter part that is taken is the one that is read, but for its yes/no byte. -/
theorem paramBytes_of_controlOf {n : Nat} {ps : List Byte} {c : Control} (h : controlOf n ps = some c) :
    c.toIdle = c ∧ c.classByte.toNat = n ∧ c.paramBytes.length = ps.length ∧
      ∀ k, (n = 2 ∧ k = 1 ∨ n = 3 ∧ k = 7) ∨ c.paramBytes[k]? = ps[k]? := by
  rcases controlOf_cases h with ⟨rfl, rfl, rfl⟩ | ⟨rfl, rfl, rfl⟩ | ⟨_, _, _, _, _, _, p, rfl, rfl, key, rfl⟩ |
    ⟨_, _, _, _, _, p, rfl, rfl, encoder, rfl⟩ | ⟨_, _, _, _, _, _, _, _, p, rfl, rfl, level, rfl⟩
  · exact ⟨rfl, rfl, rfl, fun _ => .inr rfl⟩
  · exact ⟨rfl, rfl, rfl, fun _ => .inr rfl⟩
  · rw [paramBytes_of_key key]
    exact ⟨rfl, rfl, rfl, fun _ => .inr rfl⟩
  · rw [paramBytes_of_encoder encoder]
    refine ⟨rfl, rfl, rfl, fun k => ?_⟩
    match k with
    | 0 => exact .inr rfl
    | 1 => exact .inl (.inl ⟨rfl, rfl⟩)
    | k + 2 => exact .inr rfl
  · rw [paramBytes_of_level level]
    refine ⟨rfl, rfl, rfl, fun k => ?_⟩
    match k with
    | 0 | 1 | 2 | 3 | 4 | 5 | 6 => exact .inr rfl
    | 7 => exact .inl (.inr ⟨rfl, rfl⟩)
    | k + 8 => exact .inr rfl

/-! ## The records of the tables -/

theorem settings_bytes_of_settingsOf {b w : Word} {q c n : Byte} {x : Settings} (h : settingsOf b w q c n = some x) :
    x.bytes = wordBytes b ++ wordBytes w ++ [q, c, n] := by
  unfold settingsOf at h
  split at h
  · cases h
    rw [Settings.bytes, natBytes_toNat, natBytes_toNat, ofNat_toNat_byte, ofNat_toNat_byte, ofNat_toNat_byte]
  · cases h

theorem profile_bytes_of_profileOf {d v : Word} {n : Byte} {x : Profile} (h : profileOf d v n = some x) :
    x.bytes = wordBytes d ++ wordBytes v ++ [n] := by
  unfold profileOf at h
  split at h
  · cases h
    rw [Profile.bytes, natBytes_toNat, natBytes_toNat, ofNat_toNat_byte]
  · cases h

theorem lane_bytes_of_laneEntryOf {p k o u q : Byte} {t : Word} {x : LaneEntry} (h : laneEntryOf p k o u q t = some x) :
    x.bytes = [p, if k = 0 then 0 else 1, o, if u = 0 then 0 else 1, q] ++ wordBytes t := by
  unfold laneEntryOf at h
  split at h
  · rename_i range
    cases h
    have mode : (match (if o = 0 then ServiceMode.plain else ServiceMode.held) with
        | .plain => (0 : Byte) | .held => 1) = o := by
      by_cases zero : o = 0
      · rw [if_pos zero, zero]
      · rw [if_neg zero]; bv_omega
    rw [LaneEntry.bytes, natBytes_toNat, flagByte_isYes, flagByte_isYes, ofNat_toNat_byte, ofNat_toNat_byte]
    exact congrArg (fun y => [p, if k = 0 then 0 else 1, y, if u = 0 then 0 else 1, q] ++ wordBytes t) mode
  · cases h

/-! ## The data of Read Element -/

theorem element_bytes_key (i : Nat) (lane : Fin 8) (p : KeyParams) (c : KeyCtx) :
    (Element.mk lane (.key p c)).bytes i = elementData i ⟨lane, .key p c⟩ := by
  rw [Element.bytes, twoBytes_eq]
  rcases p with ⟨down, up, mode, profile, echo, echoMode⟩
  cases mode <;> cases profile <;> cases echo <;> cases echoMode <;> rfl

theorem element_bytes_encoder (i : Nat) (lane : Fin 8) (p : EncoderParams) (c : EncoderCtx) :
    (Element.mk lane (.encoder p c)).bytes i = elementData i ⟨lane, .encoder p c⟩ := by
  rw [Element.bytes, twoBytes_eq]
  rcases p with ⟨resolution, invert, limit, threshold, factor⟩
  cases resolution <;> rfl

theorem element_bytes_level (i : Nat) (lane : Fin 8) (p : LevelParams) (c : LevelCtx) :
    (Element.mk lane (.level p c)).bytes i = elementData i ⟨lane, .level p c⟩ := by
  rw [Element.bytes, twoBytes_eq]
  dsimp only [Control.paramBytes]
  rw [twoBytes_eq, twoBytes_eq, twoBytes_eq]
  rfl

theorem element_bytes_eq (i : Nat) (x : Element) : x.bytes i = elementData i x := by
  obtain ⟨lane, control⟩ := x
  cases control with
  | key p c => exact element_bytes_key i lane p c
  | encoder p c => exact element_bytes_encoder i lane p c
  | level p c => exact element_bytes_level i lane p c
  | ignore | raw w =>
    rw [Element.bytes, twoBytes_eq]
    rfl

theorem summary_of_five (c : Control) : ∃ v w x y z, c.summary = [v, w, x, y, z] := by
  cases c <;> exact ⟨_, _, _, _, _, rfl⟩

/-- The parameter part follows the nine bytes of the summary and the header, the class byte at the eighth. -/
theorem elementData_split (i : Nat) (x : Element) : (elementData i x).drop 9 = x.control.paramBytes ∧
    (elementData i x)[7]? = some x.control.classByte := by
  obtain ⟨_, _, _, _, _, five⟩ := summary_of_five x.control
  rw [← element_bytes_eq, Element.bytes, natBytes, wordBytes, five]
  exact ⟨rfl, rfl⟩

theorem captureEntry_bytes_eq (m : ModuleIx) (x : Byte) (v : Word) (o : SweepOutcome) :
    (CaptureEntry.report m x v).bytes = [0, BitVec.ofNat 8 (m.val + 1), x] ++ twoBytes v.toNat ∧
    (CaptureEntry.sweep m x o).bytes = [1, BitVec.ofNat 8 (m.val + 1), x, o.code, 0] := by
  simp only [CaptureEntry.bytes, ModuleIx.addr, wordBytes_eq_twoBytes, and_self]

theorem controlOf_encoder_yes {i : Byte} (r l t f : Byte) (h : i ≠ 0) :
    controlOf 2 [r, i, l, t, f] = controlOf 2 [r, 1, l, t, f] := by
  refine congrArg (Option.map fun p => Control.encoder p .idle) ?_
  unfold encoderParamsOf
  rw [isYes_of_ne_zero h]

theorem controlOf_level_yes {z : Byte} (d p q l k h j : Byte) (hz : z ≠ 0) :
    controlOf 3 [d, p, q, l, k, h, j, z] = controlOf 3 [d, p, q, l, k, h, j, 1] := by
  refine congrArg (Option.map fun p => Control.level p .idle) ?_
  unfold levelParamsOf
  rw [isYes_of_ne_zero hz]

/-- Settles O21: each record by its own parser, and the layouts. -/
theorem recordsReadAsWritten : Obligations.RecordsReadAsWritten := by
  refine ⟨fun p c down up => keyParamsOf_bytes down up c,
    fun p c low high threshold least most => encoderParamsOf_bytes low high threshold least most c,
    fun p c deadband pace order high => levelParamsOf_bytes deadband pace order high c, rfl, fun _ => rfl,
    fun b w q c n x h => settings_bytes_of_settingsOf h, fun d v n x h => profile_bytes_of_profileOf h,
    fun p k o u q t x h => lane_bytes_of_laneEntryOf h, wordBytes_eq_twoBytes,
    fun n ps c h => ⟨controlOf_inRange h, paramBytes_of_controlOf h⟩, fun r i l t f h => controlOf_encoder_yes r l t f h,
    fun d p q l k h j z hz => controlOf_level_yes d p q l k h j hz, elementData_split, ⟨rfl, rfl, rfl, rfl, rfl, rfl⟩,
    captureEntry_bytes_eq, rfl, rfl, rfl, rfl, rfl, rfl, rfl, rfl⟩

end Sys2Proof.Machine

/-! # Elements read, and written at rest (O19) -/

namespace Sys2Proof.Machine

variable {s e : State} {tag : Byte} {m : ModuleIx} {i : Nat} {r : Request}

/-! ## The requests -/

theorem carryOut_readElement_eq (i : Word) (w : Bool) (s : State) : carryOut ⟨tag, 6, wordBytes i, w⟩ s =
    if i.toNat < 1024 then answer ⟨tag, 6, wordBytes i, w⟩ (.done (elementData i.toNat (s.element i.toNat))) s
    else refuse ⟨tag, 6, wordBytes i, w⟩ .badArgument s := by
  rw [carryOut_readElement, ← element_bytes_eq]
  simp only [readElement, wordBytes, wordOf_hiByte_loByte, Config.elementCount]

theorem carryOut_writeElement_eq (i : Word) (cls lane : Byte) (ps : List Byte) (w : Bool) (s : State) :
    carryOut ⟨tag, 7, wordBytes i ++ [cls, lane] ++ ps, w⟩ s =
      writeElementChecked ⟨tag, 7, wordBytes i ++ [cls, lane] ++ ps, w⟩ i.toNat cls lane ps s := by
  rw [carryOut_writeElement]
  exact congrArg (fun n => writeElementChecked _ n cls lane ps s) (congrArg BitVec.toNat (wordOf_hiByte_loByte i))

theorem paramLength_of_controlOf {n : Nat} {ps : List Byte} {c : Control} (h : controlOf n ps = some c) :
    paramLength n = some ps.length := by
  rcases controlOf_cases h with ⟨rfl, rfl, -⟩ | ⟨rfl, rfl, -⟩ | ⟨_, _, _, _, _, _, _, rfl, rfl, -, -⟩ |
    ⟨_, _, _, _, _, _, rfl, rfl, -, -⟩ | ⟨_, _, _, _, _, _, _, _, _, rfl, rfl, -, -⟩ <;> rfl

theorem paramLength_le {n k : Nat} (h : paramLength n = some k) : k ≤ 8 := by
  unfold paramLength at h
  split at h <;> cases h <;> decide

/-- A Write Element whose fields are in range, where the entry may be written (R52 to R54). -/
theorem writeElementChecked_done {cls lane : Byte} {ps : List Byte} {l : Fin 8} {c : Control} {t : State} (hi : i < 1024)
    (hl : lane.toNat = l.val) (hc : controlOf cls.toNat ps = some c) (written : writeElementEntry i l c s = some t) :
    writeElementChecked r i cls lane ps s = done r t := by
  unfold writeElementChecked
  rw [paramLength_of_controlOf hc, laneOf_of_lt l hl, hc]
  dsimp only
  rw [if_neg (not_not_intro rfl), if_pos hi, written]

/-- A Write Element whose fields are in range, where the entry may not change so (R54). -/
theorem writeElementChecked_active {cls lane : Byte} {ps : List Byte} {l : Fin 8} {c : Control} (hi : i < 1024)
    (hl : lane.toNat = l.val) (hc : controlOf cls.toNat ps = some c) (active : writeElementEntry i l c s = none) :
    writeElementChecked r i cls lane ps s = refuse r .moduleActive s := by
  unfold writeElementChecked
  rw [paramLength_of_controlOf hc, laneOf_of_lt l hl, hc]
  dsimp only
  rw [if_neg (not_not_intro rfl), if_pos hi, active]

theorem writeElementChecked_outside {cls lane : Byte} {ps : List Byte} (length : paramLength cls.toNat = some ps.length)
    (out : 1023 < i ∨ 7 < lane.toNat ∨ controlOf cls.toNat ps = none) (s : State) :
    writeElementChecked r i cls lane ps s = refuse r .badArgument s := by
  unfold writeElementChecked
  rw [length]
  dsimp only
  rw [if_neg (not_not_intro rfl)]
  split
  · rename_i l c hl hc
    have high : 1023 < i := by
      rcases out with high | high | none_
      · exact high
      · rw [laneOf_of_gt high] at hl; cases hl
      · rw [none_] at hc; cases hc
    exact if_neg (by simp only [Config.elementCount]; omega)
  · rfl

/-! ## At rest -/

theorem offAtReset_of_lit {p : KeyParams} {c : KeyCtx} {n : Fin 64} (h : (s.element i).control = .key p c)
    (lamp : p.echo = some n) (lit : c.echoBit = true) (m : ModuleIx) : offAtReset m i s = requestOff m n i s := by
  simp only [offAtReset, h, lamp, lit, if_true]

theorem offAtReset_of_unlit (h : ∀ p c, (s.element i).control = .key p c → p.echo = none ∨ c.echoBit = false) (m : ModuleIx) :
    offAtReset m i s = s := by
  unfold offAtReset
  split
  · rename_i p c key
    split
    · rename_i n lamp
      rcases h p c key with dark | dark
      · rw [lamp] at dark; cases dark
      · exact if_neg (by rw [dark]; decide)
    · rfl
  · rfl

theorem requestOff_of_room (h : s.outbound.length < 32) (m : ModuleIx) (n : Fin 64) (i : Nat) :
    requestOff m n i s = pushIndicator m n false i s := if_pos ((State.outboundRoom_iff s).mpr h)

theorem requestOff_of_full (h : 32 ≤ s.outbound.length) (m : ModuleIx) (n : Fin 64) (i : Nat) : requestOff m n i s = s :=
  if_neg (State.outboundRoom_of_full h)

theorem offAtReset_of_full (h : 32 ≤ s.outbound.length) (m : ModuleIx) (i : Nat) : offAtReset m i s = s := by
  unfold offAtReset
  split
  · split
    · rw [requestOff_of_full h, ite_self]
    · rfl
  · rfl

theorem writeAtRest_of_unbound (free : s.bound i = none) (l : Fin 8) (c : Control) :
    writeAtRest i l c s = s.setElement i ⟨l, c.toIdle⟩ := by rw [writeAtRest, free]

theorem writeAtRest_of_bound (bound : s.bound i = some m) (l : Fin 8) (c : Control) :
    writeAtRest i l c s = (offAtReset m i s).setElement i ⟨l, c.toIdle⟩ := by rw [writeAtRest, bound]

theorem writeElementEntry_of_unbound (free : s.bound i = none) (l : Fin 8) (c : Control) :
    writeElementEntry i l c s = some (writeAtRest i l c s) := by rw [writeElementEntry, free]

theorem writeElementEntry_of_rest (bound : s.bound i = some m) (rest : (s.module m).state ≠ .active) (l : Fin 8) (c : Control) :
    writeElementEntry i l c s = some (writeAtRest i l c s) := by
  rw [writeElementEntry, bound]
  exact if_neg rest

/-- A Write Element that is carried out. -/
theorem exec_writeElement_done {i : Word} {cls lane : Byte} {ps : List Byte} {l : Fin 8} {c : Control} {t : State}
    (idle : s.managementIdle) (he : e = endPartial .console s) (hi : i.toNat < 1024) (hl : lane.toNat = l.val)
    (hc : controlOf cls.toNat ps = some c) (written : writeElementEntry i.toNat l c e = some t) :
    exec (.writeElement tag i cls lane ps) s = .next (settle (t.replied tag 7 (.done []))) := by
  have short := paramLength_le (paramLength_of_controlOf hc)
  have carried := carryOut_writeElement_eq (tag := tag) i cls lane ps false e
  rw [writeElementChecked_done hi hl hc written] at carried
  have desk := writeElementEntry_desk written
  exact exec_request_answered (code := 7) idle he (by simp [wordBytes]; omega) (restartForm_of_code (by decide)) carried
    (State.wires_of_desk desk) (State.head_of_desk desk)

/-- A Write Element that is refused by its fields. -/
theorem exec_writeElement_refused {i : Word} {cls lane : Byte} {ps : List Byte} {why : Reason} (idle : s.managementIdle)
    (he : e = endPartial .console s) (short : ps.length ≤ 234)
    (refused : ∀ r, writeElementChecked r i.toNat cls lane ps e = refuse r why e) :
    exec (.writeElement tag i cls lane ps) s = .next (settle (e.replied tag 7 (.refused why))) :=
  exec_request_kept (code := 7) idle he (by simp [wordBytes]; omega) (by decide)
    ((carryOut_writeElement_eq (tag := tag) i cls lane ps false e).trans (refused _))

theorem writeElementChecked_of_length {n : Nat} {cls lane : Byte} {ps : List Byte} (length : paramLength cls.toNat = some n)
    (other : ps.length ≠ n) (r : Request) (i : Nat) (s : State) :
    writeElementChecked r i cls lane ps s = refuse r .badRequest s := by
  unfold writeElementChecked
  rw [length]
  exact if_pos other

theorem State.element_setElement_eq (s : State) (i j : Nat) (x : Element) :
    (s.setElement i x).element j = if j = i then x else s.element j := by
  split
  · subst j; exact s.element_setElement i x
  · exact s.element_setElement_of_ne ‹_› x

theorem State.updKey_of_other (h : ∀ p c, (s.element i).control ≠ .key p c) (f : KeyCtx → KeyCtx) : s.updKey i f = s := by
  unfold State.updKey
  split
  · exact absurd ‹_› (h _ _)
  · rfl

theorem State.updLevel_of_other (h : ∀ p c, (s.element i).control ≠ .level p c) (f : LevelCtx → LevelCtx) :
    s.updLevel i f = s := by
  unfold State.updLevel
  split
  · exact absurd ‹_› (h _ _)
  · rfl

/-- Settles O19: the requests, the off frame, the idle contexts and the table. -/
theorem elementIsReadAndWrittenAtRest : Obligations.ElementIsReadAndWrittenAtRest := by
  refine ⟨fun tag i s e idle he => ⟨fun low => ?_, fun high => ?_⟩,
    fun tag cls lane i ps l c s e idle he hi hl hc => ⟨fun free => ?_, fun m bound rest => ?_⟩,
    fun tag cls lane i ps s e idle he short => ⟨fun high => ?_, fun n length other => ?_, fun length out => ?_⟩,
    fun m i s => ⟨fun p c n key lamp lit room => ?_, ?_⟩,
    ⟨rfl, rfl, rfl, fun _ _ => rfl, fun _ _ => rfl, fun _ _ => rfl, fun _ => rfl, rfl⟩,
    ⟨rfl, rfl, rfl, rfl, rfl, fun n => (paramLength_eq_none_iff n).mpr⟩,
    fun i s => ⟨fun x => ⟨rfl, fun j => s.element_setElement_eq i j x⟩, fun _ => rfl,
      fun f => ⟨fun p c key => State.updKey_of_key key f, fun other => State.updKey_of_other other f⟩,
      fun f => ⟨fun p c level => State.updLevel_of_level level f, fun other => State.updLevel_of_other other f⟩,
      fun ok => ⟨fun x listed => Table.get_of_mem ok.1 listed, fun unlisted => ?_⟩⟩⟩
  · refine exec_request_kept (code := 6) idle he (by simp [wordBytes]) (by decide) ?_
    rw [carryOut_readElement_eq, if_pos low]
  · refine exec_request_kept (code := 6) idle he (by simp [wordBytes]) (by decide) ?_
    rw [carryOut_readElement_eq, if_neg (by omega)]
    rfl
  · have written := writeElementEntry_of_unbound free l c
    rw [writeAtRest_of_unbound free, (paramBytes_of_controlOf hc).1] at written
    exact exec_writeElement_done idle he hi hl hc written
  · have written := writeElementEntry_of_rest bound rest l c
    rw [writeAtRest_of_bound bound, (paramBytes_of_controlOf hc).1] at written
    exact exec_writeElement_done idle he hi hl hc written
  · refine exec_writeElement_refused idle he short fun r => ?_
    rw [writeElementChecked, (paramLength_eq_none_iff _).mpr high]
  · exact exec_writeElement_refused idle he short fun r => writeElementChecked_of_length length other r _ _
  · exact exec_writeElement_refused idle he short fun r => writeElementChecked_outside length out _
  · rw [offAtReset_of_lit key lamp lit, requestOff_of_room room]
    exact lampQueued_pushIndicator s m n false i
  · rintro (full | unlit)
    · exact offAtReset_of_full full m i
    · exact offAtReset_of_unlit unlit m
  · by_contra away
    exact unlisted _ (Table.mem_of_get_ne away)

end Sys2Proof.Machine

/-! # Write Element under an Active module (O20) -/

namespace Sys2Proof.Machine

variable {s e : State} {tag : Byte} {m : ModuleIx} {i : Nat}

/-! ## By class -/

theorem writeElementEntry_of_active (bound : s.bound i = some m) (active : (s.module m).state = .active) (l : Fin 8)
    (c : Control) : writeElementEntry i l c s = if (s.element i).lane = l then writeInPlace i c s else none := by
  rw [writeElementEntry, bound]
  exact if_pos active

theorem writeInPlace_of_other {c : Control} (h : (s.element i).control.classByte ≠ c.classByte) : writeInPlace i c s = none := by
  unfold writeInPlace
  generalize (s.element i).control = old at h ⊢
  cases old <;> cases c <;> first | rfl | exact absurd rfl h

theorem writeInPlace_of_key {p q : KeyParams} {x : KeyCtx} (h : (s.element i).control = .key p x) (y : KeyCtx) :
    writeInPlace i (.key q y) s = some (writeKeyInPlace i p q x s) := by simp only [writeInPlace, h]

theorem retuneEncoder_eq (p q : EncoderParams) (x : EncoderCtx) :
    retuneEncoder p q x = { x with sub := if p.resolution = q.resolution then x.sub else 0 } := by
  unfold retuneEncoder
  split <;> rfl

theorem writeInPlace_of_encoder {p q : EncoderParams} {x : EncoderCtx} (h : (s.element i).control = .encoder p x)
    (y : EncoderCtx) : writeInPlace i (.encoder q y) s = some (s.setControl i (.encoder q
      { x with sub := if p.resolution = q.resolution then x.sub else 0 })) := by
  simp only [← retuneEncoder_eq, writeInPlace, h]

theorem retuneLevel_eq (p q : LevelParams) (x : LevelCtx) :
    retuneLevel p q x = { x with zone := if p.zones = true ∧ q.zones = false then .mid else x.zone } := by
  unfold retuneLevel
  simp only [Bool.not_eq_true]
  split <;> rfl

theorem writeInPlace_of_level {p q : LevelParams} {x : LevelCtx} (h : (s.element i).control = .level p x) (y : LevelCtx) :
    writeInPlace i (.level q y) s = some (s.setControl i (.level q
      { x with zone := if p.zones = true ∧ q.zones = false then .mid else x.zone })) := by
  simp only [← retuneLevel_eq, writeInPlace, h]

theorem Control.eq_raw_of_classByte {c : Control} (h : c.classByte = 4) : ∃ w, c = .raw w := by
  cases c with
  | raw w => exact ⟨w, rfl⟩
  | key | encoder | level | ignore => cases h

theorem writeInPlace_of_plain {c : Control} (same : (s.element i).control.classByte = c.classByte)
    (plain : c.classByte = 0 ∨ c.classByte = 4) : writeInPlace i c s = some s := by
  rcases plain with h | h
  · rw [Control.eq_ignore_of_classByte h]
    simp only [writeInPlace, Control.eq_ignore_of_classByte (same.trans h)]
  · obtain ⟨old, was⟩ := Control.eq_raw_of_classByte (same.trans h)
    obtain ⟨new, rfl⟩ := Control.eq_raw_of_classByte h
    simp only [writeInPlace, was]

/-! ## A key -/

theorem retuneKey_eq (q : KeyParams) (c : KeyCtx) (stale : Bool) : { retuneKey q c with stale := stale } = { c with
    settle := if c.closed = false ∧ c.rawClosed = true then min c.settle q.debounceDown
      else if c.closed = true ∧ c.rawClosed = false then min c.settle q.debounceUp else c.settle,
    timer := if q.profile = none then none else c.timer,
    repeatDue := if q.profile = none then false else c.repeatDue,
    stale := stale } := by
  rcases c with ⟨rawClosed, closed, _, _, _, _, _, _, _, _, _⟩
  cases rawClosed <;> cases closed <;> by_cases profile : q.profile = none <;> simp [retuneKey, KeyCtx.phase, profile]

theorem retuneMode_eq (old new : NoticeMode) (stale : Bool) : retuneMode old new stale =
    if new = old then stale else match new with | .both => true | .pressOnly => false | .toggle => stale := by
  unfold retuneMode
  by_cases same : old = new
  · rw [if_pos same, if_pos same.symm]
  · rw [if_neg same, if_neg (Ne.symm same)] <;> rfl

/-- The old lamp is put out where it is lit or owed and an entry is free, and both echo flags are cleared (R56). -/
theorem dropEcho_eq (i : Nat) (p : KeyParams) (c : KeyCtx) (u : State) : ∃ w : State,
    dropEcho i p c u = w.updKey i (fun k => { k with echoBit := false, echoPending := false }) ∧
    (∀ n m, p.echo = some n → u.bound i = some m → (c.echoBit = true ∨ c.echoPending = true) →
      u.outbound.length < 32 → u.lampQueued w m n false i) ∧
    ((p.echo = none ∨ u.bound i = none ∨ (c.echoBit = false ∧ c.echoPending = false) ∨ 32 ≤ u.outbound.length) → w = u) := by
  refine ⟨_, rfl, fun n m lamp bound due room => ?_, fun quiet => ?_⟩
  · rw [lamp, bound]
    dsimp only
    rw [if_pos due, requestOff_of_room room]
    exact lampQueued_pushIndicator u m n false i
  · split
    · rename_i n m lamp bound
      rcases quiet with h | h | ⟨dark, none_owed⟩ | full
      · rw [lamp] at h; cases h
      · rw [bound] at h; cases h
      · exact if_neg (by rw [dark, none_owed]; decide)
      · rw [requestOff_of_full full, ite_self]
    · rfl

/-- What an in-place write to a key leaves, its echo effects apart (R55, R56). -/
theorem writeKeyInPlace_eq {p q : KeyParams} {c : KeyCtx} {s u : State}
    (hu : u = s.setControl i (.key q { c with
      settle := if c.closed = false ∧ c.rawClosed = true then min c.settle q.debounceDown
        else if c.closed = true ∧ c.rawClosed = false then min c.settle q.debounceUp else c.settle,
      timer := if q.profile = none then none else c.timer,
      repeatDue := if q.profile = none then false else c.repeatDue,
      stale := if q.mode = p.mode then c.stale else
        match q.mode with | .both => true | .pressOnly => false | .toggle => c.stale })) :
    writeKeyInPlace i p q c s =
      if q.mode ≠ p.mode ∧ q.mode = .both then servicePass (retuneEcho i p q c u) else retuneEcho i p q c u := by
  rw [← retuneMode_eq, ← retuneKey_eq] at hu
  rw [hu]
  simp only [writeKeyInPlace, ne_comm]

/-- Settles O20: the refusal, the four classes, and the echo effects of a key. -/
theorem writeElementUnderActiveModule : Obligations.WriteElementUnderActiveModule := by
  refine ⟨fun tag cls lane i ps l c m s e idle he hi hl hc bound active => ⟨fun differs => ?_,
      fun lane_kept => ⟨fun p q x y old new => ?_, fun p q x y old new => ?_, fun p q x y old new => ?_, fun same plain => ?_⟩⟩,
    fun i p q c s u key hu => ⟨retuneEcho i p q c u, writeKeyInPlace_eq hu, fun echo mode => ?_, fun echo mode => ?_,
      fun echo => ?_⟩⟩
  · have none_ : writeElementEntry i.toNat l c e = none := by
      rw [writeElementEntry_of_active bound active]
      split
      · rename_i same
        exact writeInPlace_of_other (differs.resolve_right (not_not_intro same))
      · rfl
    exact exec_writeElement_refused idle he (by have := paramLength_le (paramLength_of_controlOf hc); omega) fun r =>
      writeElementChecked_active hi hl hc none_
  · have written := writeElementEntry_of_active bound active l c
    rw [if_pos lane_kept, new, writeInPlace_of_encoder old] at written
    exact exec_writeElement_done idle he hi hl (new ▸ hc) written
  · have written := writeElementEntry_of_active bound active l c
    rw [if_pos lane_kept, new, writeInPlace_of_level old] at written
    exact exec_writeElement_done idle he hi hl (new ▸ hc) written
  · have written := writeElementEntry_of_active bound active l c
    rw [if_pos lane_kept, new, writeInPlace_of_key old] at written
    exact exec_writeElement_done idle he hi hl (new ▸ hc) written
  · have written := writeElementEntry_of_active bound active l c
    rw [if_pos lane_kept, writeInPlace_of_plain same plain] at written
    exact exec_writeElement_done idle he hi hl hc written
  · rw [retuneEcho, if_neg (not_not_intro echo), if_neg (not_not_intro mode)]
  · rw [retuneEcho, if_neg (not_not_intro echo), if_pos mode]
  · obtain ⟨w, dropped, lamp, quiet⟩ := dropEcho_eq i p c u
    have kept : u.bound i = s.bound i := by rw [hu]; exact State.bound_congr rfl i
    have outbound : u.outbound = s.outbound := by rw [hu]; rfl
    rw [kept, outbound] at lamp quiet
    exact ⟨w, by rw [retuneEcho, if_pos echo, dropped], lamp, quiet⟩

end Sys2Proof.Machine

/-! # Write Module begins a flush (O18) -/

namespace Sys2Proof.Machine

variable {s e : State} {tag code : Byte} {m : ModuleIx} {i : Nat}

/-! ## The request stays in flight -/

theorem enterDraining_eq (m : ModuleIx) (s : State) {d : State} (hd : d = s.setModule m { s.module m with
      state := .draining, watchdog := none, sweep := ⟨[], false, 0⟩, mark := .recording }) :
    enterDraining m s = servicePass ((d.boundTo m).foldl (fun t i => drainElement i t) d) := by
  rw [enterDraining, dropSweep_eq, State.updModule, State.module_setModule, State.setModule_setModule, hd]

/-- A request that finds the management unit idle and begins a flush stays at the head of its queue (R37, R145). -/
theorem exec_request_flushes {args : List Byte} {u : State} {h : HeadCondition} (idle : s.managementIdle)
    (he : e = endPartial .console s) (len : args.length ≤ 238)
    (plain : (Request.mk tag code args false).restartForm = none)
    (carried : carryOut ⟨tag, code, args, false⟩ e = { u with head := h }) (replies : u.replies = e.replies) :
    exec (.request tag code args) s = .next (settle { u with requests := [⟨tag, code, args, false⟩], head := h }) := by
  obtain ⟨free, -, ready, -⟩ := idle.of_endPartial he
  have arrival : exec (.request tag code args) s = .next (settle { e with requests := [⟨tag, code, args, false⟩] }) := by
    subst he
    exact congrArg Host.Outcome.next (requestFrame_joins idle.1 len plain idle.2.1)
  have queued : carryOut ⟨tag, code, args, false⟩ { e with requests := [⟨tag, code, args, false⟩] } =
      { u with requests := [⟨tag, code, args, false⟩], head := h } := by
    have alone := carryOut_withQueues plain e ([⟨tag, code, args, false⟩], e.replies)
    rw [carried, ← replies] at alone
    refine Eq.trans ?_ alone
    rw [replies]
    rfl
  have step := dueStep_of_ready (s := { e with requests := [⟨tag, code, args, false⟩] }) free ready rfl
  rw [arrival, settle_of_due step, queued]

/-! ## An element is retired -/

theorem drainStale_of_key {p : KeyParams} {c : KeyCtx} (h : (s.element i).control = .key p c) :
    drainStale i s = if p.mode = .both then s else s.updKey i fun k => { k with stale := false } := by
  rw [drainStale, h]

theorem drainEcho_of_dark {p : KeyParams} {c : KeyCtx} (h : (s.element i).control = .key p c)
    (dark : p.echo = none ∨ c.echoBit = false) : drainEcho i s = s := by
  rw [drainEcho, h]
  refine if_neg fun lit => ?_
  rcases dark with none_ | off
  · rw [none_] at lit; cases lit.1
  · rw [off] at lit; cases lit.2

theorem drainEcho_of_lit {p : KeyParams} {c : KeyCtx} (h : (s.element i).control = .key p c) (lamp : p.echo ≠ none)
    (lit : c.echoBit = true) : drainEcho i s =
      if c.echoPending = true then s.updKey i (fun k => { k with echoBit := false })
      else requestEcho i (s.updKey i fun k => { k with echoBit := false }) := by
  rw [drainEcho, h]
  exact if_pos ⟨Option.isSome_iff_ne_none.mpr lamp, lit⟩

/-- A key as the Release of its module's flush leaves it: its stale flag apart, Open with its repeat ended. -/
theorem releaseKey_key {p : KeyParams} {c : KeyCtx} (h : (s.element i).control = .key p c) (g : Flags) :
    ∃ b, ((releaseKey i g s).element i).control = .key p { openKey c with stale := b } := by
  have opened : ((s.setControl i (.key p (openKey c))).element i).control = .key p (openKey c) := by
    rw [State.element_setControl]
  rw [releaseKey_of_key h rfl]
  split
  · exact giveNotice_key opened _ _ _ _
  · exact ⟨_, opened⟩

theorem drainStale_key {p : KeyParams} {c : KeyCtx} (h : (s.element i).control = .key p c) :
    ∃ b, ((drainStale i s).element i).control = .key p { c with stale := b } := by
  rw [drainStale_of_key h]
  split
  · exact ⟨_, h⟩
  · rw [State.updKey_of_key h, State.element_setControl]
    exact ⟨_, rfl⟩

/-- Settles O18: the flush begins, and an element is retired by its class. -/
theorem writeModuleBeginsAFlush : Obligations.WriteModuleBeginsAFlush := by
  refine ⟨fun tag a enabled base count m x s e d idle he ha low high sum hx apart change active hd => ?_,
    fun i s => ⟨fun p c o r q w key ho hr hq hw => ?_, fun p c encoder => ?_, fun p c level => ?_, fun plain => ?_⟩⟩
  · have carried := carryOut_writeModule_of_fields (tag := tag) (enabled := enabled) ha low high sum hx false e
    rw [if_neg (by rw [apart]; decide), carryWriteModule, if_neg change, active] at carried
    have replies : (enterDraining m e).replies = e.replies := State.replies_of_wires (State.wires_of_desk (enterDraining_desk e m))
    rw [← enterDraining_eq m e hd]
    exact exec_request_flushes (code := 5) idle he (by simp [wordBytes]) (restartForm_of_code (by decide)) carried replies
  · have released : releaseKey i { removed := true } s = r := by rw [releaseKey_of_key key ho, hr]
    obtain ⟨b, key_r⟩ := releaseKey_key key { removed := true }
    have settled : drainStale i r = q := by rw [← released, drainStale_of_key key_r, hq, released]
    obtain ⟨b', key_q⟩ := drainStale_key key_r
    rw [released, settled] at key_q
    have drained : drainElement i s = drainEcho i q := by rw [drainElement, key, drainKey, released, settled]
    obtain ⟨k, key_k, bit, pending⟩ : ∃ k, (q.element i).control = .key p k ∧ k.echoBit = c.echoBit ∧
        k.echoPending = c.echoPending := ⟨_, key_q, rfl, rfl⟩
    rw [drained, hw, ← bit, ← pending]
    exact ⟨fun dark => drainEcho_of_dark key_k dark, fun lamp lit => drainEcho_of_lit key_k lamp lit⟩
  · rw [drainElement, encoder]
    exact State.updEncoder_of_encoder encoder _
  · rw [drainElement, level]
    exact State.updLevel_of_level level _
  · rcases plain with ⟨w, raw⟩ | ignore
    · rw [drainElement, raw]
    · rw [drainElement, ignore]

end Sys2Proof.Machine

/-! # A flush completes (O50) -/

namespace Sys2Proof.Machine

variable {s t u : State} {m : ModuleIx} {i j : Nat} {x : ModuleEntry}

/-! ## What a change of entry may write -/

/-- `t` is `s` but for its modules, its elements and its outbound queue. -/
def State.sameBut (s t : State) : Prop :=
  t = { s with modules := t.modules, elements := t.elements, outbound := t.outbound }

theorem State.sameBut.refl (s : State) : s.sameBut s := rfl

theorem State.sameBut.trans (h : s.sameBut t) (k : t.sameBut u) : s.sameBut u :=
  Eq.trans k (congrArg (fun y : State =>
    { y with modules := u.modules, elements := u.elements, outbound := u.outbound }) h)

theorem sameBut_setModule (s : State) (m : ModuleIx) (y : Module) : s.sameBut (s.setModule m y) := rfl

theorem sameBut_foldl {f : State → Nat → State} (h : ∀ (t : State) i, t.sameBut (f t i)) (l : List Nat) (s : State) :
    s.sameBut (l.foldl f s) :=
  foldl_keeps (P := fun t => s.sameBut t) (fun t i k => k.trans (h t i)) l (.refl s)

/-! ## Ranges reset -/

/-- An element with the idle context of its class. -/
def Element.idled (x : Element) : Element := { x with control := x.control.toIdle }

theorem Element.idled_idled (x : Element) : x.idled.idled = x.idled := by
  rcases x with ⟨lane, control⟩
  cases control <;> rfl

theorem resetContext_element (i j : Nat) (s : State) :
    (resetContext i s).element j = if j = i then (s.element j).idled else s.element j := by
  split
  · subst j; exact s.element_setControl i _
  · exact s.element_setControl_of_ne ‹_› _

/-- An element after a fold of steps each of which resets its own index and leaves this one otherwise. -/
theorem foldl_element {f : State → Nat → State} {P : State → Prop} (keeps : ∀ t i, P t → P (f t i))
    (step : ∀ t i, P t → (f t i).element j = if j = i then (t.element j).idled else t.element j) (l : List Nat) :
    ∀ {s : State}, P s → (l.foldl f s).element j = if j ∈ l then (s.element j).idled else s.element j := by
  induction l with
  | nil => intro s _; simp
  | cons i l ih =>
    intro s hs
    rw [List.foldl_cons, ih (keeps s i hs), step s i hs]
    by_cases here : j = i <;> by_cases later : j ∈ l <;> simp [here, later, Element.idled_idled]

theorem ModuleEntry.mem_range_iff (on : x.enabled = true) : i ∈ x.range ↔ x.binds i = true :=
  ⟨ModuleEntry.binds_of_mem_range on, fun h => (ModuleEntry.mem_range_of_binds h).2⟩

theorem ModuleEntry.not_binds_of_disabled (off : ¬ x.enabled = true) (i : Nat) : ¬ x.binds i = true :=
  fun h => off (ModuleEntry.mem_range_of_binds h).1

theorem resetRange_element (x : ModuleEntry) (s : State) (j : Nat) :
    (resetRange x s).element j = if x.binds j = true then (s.element j).idled else s.element j := by
  unfold resetRange
  split
  · rename_i on
    simp only [foldl_element (P := fun _ => True) (fun _ _ h => h) (fun t i _ => resetContext_element i j t) x.range trivial,
      ModuleEntry.mem_range_iff on]
  · rename_i off
    rw [if_neg (ModuleEntry.not_binds_of_disabled off j)]

theorem resetRange_sameBut (x : ModuleEntry) (s : State) : s.sameBut (resetRange x s) := by
  unfold resetRange
  split
  · exact sameBut_foldl (f := fun t i => resetContext i t) (fun _ _ => rfl) _ _
  · rfl

theorem resetRange_outbound (x : ModuleEntry) (s : State) : (resetRange x s).outbound = s.outbound := by
  unfold resetRange
  split
  · exact foldl_keeps (P := fun t => t.outbound = s.outbound) (f := fun t i => resetContext i t) (fun t i h => h) _ rfl
  · rfl

/-! ## The end of a change of entry -/

/-- The module once its new entry stands (R36, R41). -/
def Module.mapped (y : Module) (x : ModuleEntry) (full : Bool) : Module :=
  { y with
    lastApplied := none, emptyRun := 0, state := if x.enabled then .waiting else .unmapped,
    resyncOwed := x.enabled && (full || y.resyncOwed) }

theorem requestResync_setModule (m : ModuleIx) (y : Module) (s : State) : requestResync m (s.setModule m y) =
    State.setModule { s with
      outbound := if s.outbound.length < 32 then s.outbound ++ [⟨⟨7, BitVec.ofNat 6 (m.val + 1), []⟩, false⟩]
        else s.outbound } m { y with resyncOwed := decide (32 ≤ s.outbound.length) || y.resyncOwed } := by
  by_cases room : s.outbound.length < 32
  · rw [requestResync_of_room (s := s.setModule m y) room, if_pos room, decide_eq_false (Nat.not_le.mpr room)]
    rfl
  · have full := Nat.not_lt.mp room
    rw [requestResync_of_full (s := s.setModule m y) full, if_neg room, decide_eq_true full, State.module_setModule,
      State.setModule_setModule]
    rfl

theorem enterMapped_eq (m : ModuleIx) (x : ModuleEntry) (s : State) : enterMapped m x s = State.setModule { s with
    outbound := if x.enabled = true ∧ s.outbound.length < 32 then
      s.outbound ++ [⟨⟨7, BitVec.ofNat 6 (m.val + 1), []⟩, false⟩] else s.outbound } m
      ((s.module m).mapped x (decide (32 ≤ s.outbound.length))) := by
  rw [enterMapped]
  simp only [State.updModule, State.module_setModule, State.setModule_setModule, requestResync_setModule, Module.mapped]
  cases x.enabled
  · simp only [Bool.false_eq_true, false_and, if_false, Bool.false_and]
  · simp only [true_and, if_true, Bool.true_and]

/-- What a change of entry leaves: the module mapped, the other modules as they were, both ranges idle. -/
structure Mapped (m : ModuleIx) (x : ModuleEntry) (s t : State) (y : Module) (o : List OutFrame) : Prop where
  module_self : t.module m = y.mapped x (decide (32 ≤ o.length))
  module_other : ∀ k, k ≠ m → t.module k = s.module k
  idle : ∀ i, (x.binds i = true ∨ (s.module m).entry.binds i = true) → t.element i = (s.element i).idled
  kept : ∀ i, x.binds i = false → (s.module m).entry.binds i = false → t.element i = s.element i
  outbound : t.outbound = if x.enabled = true ∧ o.length < 32 then
    o ++ [⟨⟨7, BitVec.ofNat 6 (m.val + 1), []⟩, false⟩] else o
  rest : s.sameBut t

/-- The new range is reset and the module mapped, once the entry is installed and the old range reset. -/
theorem mapped_enterMapped {r : State} {y : Module} (rest : s.sameBut r) (self : r.module m = y)
    (other : ∀ k, k ≠ m → r.module k = s.module k)
    (same_class : ∀ i, (r.element i).idled = (s.element i).idled)
    (old_range : ∀ i, x.binds i = false →
      r.element i = if (s.module m).entry.binds i = true then (s.element i).idled else s.element i) :
    Mapped m x s (enterMapped m x (resetRange x r)) y r.outbound := by
  have modules := resetRange_modules x r
  have outbound := resetRange_outbound x r
  have element : ∀ i, (enterMapped m x (resetRange x r)).element i = (resetRange x r).element i := fun i => by
    rw [enterMapped_eq]; rfl
  constructor
  case module_self => rw [enterMapped_eq, State.module_setModule, outbound, State.module_congr modules, self]
  case module_other =>
    intro k away
    rw [enterMapped_eq, State.module_setModule_of_ne _ away, ← other k away, ← State.module_congr modules]
    rfl
  case idle =>
    intro i bound
    rw [element, resetRange_element]
    split
    · exact same_class i
    · rename_i free
      rw [old_range i (Bool.eq_false_iff.mpr free), if_pos (bound.resolve_left free)]
  case kept =>
    intro i new old
    rw [element, resetRange_element, if_neg (by rw [new]; decide), old_range i new, if_neg (by rw [old]; decide)]
  case outbound => rw [enterMapped_eq, State.setModule_outbound, outbound]
  case rest =>
    refine (rest.trans (resetRange_sameBut x r)).trans ?_
    rw [enterMapped_eq]
    rfl

/-! ## The flush -/

theorem mapped_resetRange (m : ModuleIx) (x : ModuleEntry) (y : Module) (s : State) :
    Mapped m x s (enterMapped m x (resetRange x (resetRange (s.module m).entry (s.setModule m y)))) y s.outbound := by
  have modules := resetRange_modules (s.module m).entry (s.setModule m y)
  have outbound : (resetRange (s.module m).entry (s.setModule m y)).outbound = s.outbound := resetRange_outbound _ _
  have element : ∀ i, (resetRange (s.module m).entry (s.setModule m y)).element i =
      if (s.module m).entry.binds i = true then (s.element i).idled else s.element i := resetRange_element _ _
  rw [← outbound]
  refine mapped_enterMapped ((sameBut_setModule s m _).trans (resetRange_sameBut _ _)) ?_ (fun k away => ?_)
    (fun i => ?_) fun i _ => element i
  · rw [State.module_congr modules, State.module_setModule]
  · rw [State.module_congr modules, State.module_setModule_of_ne _ away]
  · rw [element]
    split
    · exact Element.idled_idled _
    · rfl

theorem mapped_completeFlush (m : ModuleIx) (x : ModuleEntry) (s : State) :
    Mapped m x s (completeFlush m x s) { s.module m with entry := x } s.outbound := mapped_resetRange m x _ s

theorem State.flushDone_of (h : ∀ i ∈ s.boundTo m, ∀ p c, (s.element i).control = .key p c →
    ¬ (p.mode = .both ∧ c.stale = true) ∧ c.echoPending = false) : s.flushDone m = true := by
  have none_owes : ∀ i ∈ s.boundTo m, s.flushOwes i = false := by
    intro i mem
    unfold State.flushOwes
    split
    · rename_i p c key
      obtain ⟨fresh, none_owed⟩ := h i mem p c key
      rw [none_owed, Bool.or_false, Bool.eq_false_iff]
      simpa using fresh
    · rfl
  rw [State.flushDone, List.any_eq_false.mpr fun i mem => by rw [none_owes i mem]; decide]
  rfl

/-- Settles O50: the step of a flush that is done, and what the completion leaves. -/
theorem flushCompletes : Obligations.FlushCompletes := by
  intro s m x r rest free flushing queued ready
  obtain ⟨self, other, idle, kept, outbound, same⟩ := mapped_completeFlush m x s
  refine ⟨completeFlush m x s, ?_, self, other, idle, kept, outbound, same⟩
  have step : flushStep s = some (done r (completeFlush m x s)) := by
    rw [flushStep, flushing, queued]
    exact if_pos (State.flushDone_of ready)
  refine congrArg Host.Outcome.next (?_ : internal flushStep s = _)
  rw [internal, if_neg (by rw [free]; decide), step]
  rfl

end Sys2Proof.Machine

/-! # Write Module takes effect at once (O17) -/

namespace Sys2Proof.Machine

variable {s t e : State} {tag : Byte} {m : ModuleIx} {i j : Nat} {x : ModuleEntry} {n : Fin 64}

/-! ## Lit lamps -/

/-- The indicator of a key whose echo bit is 1. -/
def State.litLamp (s : State) (i : Nat) : Option (Fin 64) :=
  match (s.element i).control with
  | .key p c => if c.echoBit then p.echo else none
  | _ => none

theorem State.litLamp_congr (h : t.element i = s.element i) : t.litLamp i = s.litLamp i := by
  rw [State.litLamp, State.litLamp, h]

theorem State.litLamp_of_key {p : KeyParams} {c : KeyCtx} (h : (s.element i).control = .key p c) :
    s.litLamp i = if c.echoBit then p.echo else none := by rw [State.litLamp, h]

theorem State.litLamp_eq_some_iff : s.litLamp i = some n ↔
    ∃ p c, (s.element i).control = .key p c ∧ p.echo = some n ∧ c.echoBit = true := by
  constructor
  · intro h
    unfold State.litLamp at h
    split at h
    · rename_i p c key
      split at h
      · exact ⟨p, c, key, h, ‹_›⟩
      · cases h
    · cases h
  · rintro ⟨p, c, key, lamp, lit⟩
    rw [State.litLamp_of_key key, if_pos lit, lamp]

theorem State.unlit_of_litLamp (h : s.litLamp i = none) (p : KeyParams) (c : KeyCtx) (key : (s.element i).control = .key p c) :
    p.echo = none ∨ c.echoBit = false := by
  rw [State.litLamp_of_key key] at h
  split at h
  · exact .inl h
  · exact .inr (Bool.eq_false_iff.mpr ‹_›)

theorem State.lampsOff_of_lit (h : s.litLamp i = some n) (x : ModuleEntry) (sent : List (Fin 64)) (rest : List Nat) :
    s.lampsOff x sent (i :: rest) = if x.binds i = true ∧ n ∈ sent then s.lampsOff x sent rest
      else n :: s.lampsOff x (n :: sent) rest := by
  obtain ⟨p, c, key, lamp, lit⟩ := State.litLamp_eq_some_iff.mp h
  rw [State.lampsOff, key]
  simp only [lamp, lit, true_and, ite_not]

theorem State.lampsOff_of_unlit (h : s.litLamp i = none) (x : ModuleEntry) (sent : List (Fin 64)) (rest : List Nat) :
    s.lampsOff x sent (i :: rest) = s.lampsOff x sent rest := by
  rw [State.lampsOff]
  split
  · rename_i p c key
    split
    · rename_i n lamp
      rcases State.unlit_of_litLamp h p c key with none_ | dark
      · rw [lamp] at none_; cases none_
      · exact if_neg fun lit => by rw [dark] at lit; cases lit.1
    · rfl
  · rfl

/-! ## The off frame of one key -/

theorem pushIndicator_element_hit {p : KeyParams} {c : KeyCtx} (key : (s.element j).control = .key p c)
    (lamp : p.echo = some n) (bound : s.bound j = some m) (away : j ≠ i) (on : Bool) :
    (pushIndicator m n on i s).element j = { s.element j with control := .key p { c with
      echoBit := on, echoPending := false,
      latched := match p.echoMode with | .latch => on | .follow => c.latched } } :=
  ((lampQueued_pushIndicator s m n on i).2 j).1 p c m key ⟨n, lamp, rfl⟩ bound
    (.inr (Nat.mod_eq_of_lt (by omega))) fun h => away (Option.some.inj h).symm

/-- A lamp frame to module `m` leaves every key but those of that lamp bound there (R137). -/
theorem pushIndicator_element_other (h : ∀ p c, (s.element j).control = .key p c → p.echo = some n → s.bound j ≠ some m)
    (on : Bool) (i : Nat) : (pushIndicator m n on i s).element j = s.element j := by
  refine ((lampQueued_pushIndicator s m n on i).2 j).2 ?_
  rintro ⟨p, c, k, y, key, lamp, number, bound, reach, -⟩
  have address : (BitVec.ofNat 6 (m.val + 1)).toNat = m.val + 1 := Nat.mod_eq_of_lt (by omega)
  have same : k = m := by
    rcases reach with zero | here
    · rw [zero] at address; cases address
    · exact Fin.ext (by omega)
  subst same
  exact h p c key (lamp.trans (congrArg some (Fin.ext number))) bound

theorem litLamp_pushIndicator (away : j ≠ i) : (pushIndicator m n false i s).litLamp j =
    (s.litLamp j).filter fun k => decide (¬ (s.bound j = some m ∧ k = n)) := by
  by_cases hit : ∃ p c, (s.element j).control = .key p c ∧ p.echo = some n ∧ s.bound j = some m
  · obtain ⟨p, c, key, lamp, bound⟩ := hit
    rw [State.litLamp, pushIndicator_element_hit key lamp bound away, State.litLamp_of_key key, lamp, bound]
    cases c.echoBit <;> simp [Option.filter_some]
  · rw [State.litLamp_congr (pushIndicator_element_other (fun p c key lamp bound => hit ⟨p, c, key, lamp, bound⟩) false i)]
    cases lit : s.litLamp j with
    | none => rfl
    | some k =>
      obtain ⟨p, c, key, lamp, -⟩ := State.litLamp_eq_some_iff.mp lit
      have differs : ¬ (s.bound j = some m ∧ k = n) := fun h => hit ⟨p, c, key, lamp.trans (congrArg some h.2), h.1⟩
      rw [Option.filter_some, if_pos (decide_eq_true differs)]

theorem pushIndicator_element_idled (s : State) (m : ModuleIx) (n : Fin 64) (on : Bool) (i j : Nat) :
    ((pushIndicator m n on i s).element j).idled = (s.element j).idled := by
  by_cases hit : ∃ p c, (s.element j).control = .key p c ∧ p.echo = some n ∧ s.bound j = some m
  · obtain ⟨p, c, key, lamp, bound⟩ := hit
    by_cases self : j = i
    · rw [self, element_pushIndicator_self]
    · rw [pushIndicator_element_hit key lamp bound self, Element.idled, Element.idled, key]
      rfl
  · rw [pushIndicator_element_other fun p c key lamp bound => hit ⟨p, c, key, lamp, bound⟩]

theorem pushIndicator_outbound (s : State) (m : ModuleIx) (n : Fin 64) (on : Bool) (i : Nat) :
    (pushIndicator m n on i s).outbound = s.outbound ++ [lampFrame m n on] := rfl

/-! ## The off frames of a range -/

theorem offAtReset_cases (m : ModuleIx) (i : Nat) (s : State) :
    offAtReset m i s = s ∨ ∃ n, offAtReset m i s = pushIndicator m n false i s := by
  cases lit : s.litLamp i with
  | none => exact .inl (offAtReset_of_unlit (State.unlit_of_litLamp lit) m)
  | some n =>
    obtain ⟨p, c, key, lamp, on⟩ := State.litLamp_eq_some_iff.mp lit
    rw [offAtReset_of_lit key lamp on]
    by_cases room : s.outbound.length < 32
    · exact .inr ⟨n, requestOff_of_room room m n i⟩
    · exact .inl (requestOff_of_full (Nat.not_lt.mp room) m n i)

theorem offAtReset_element_of_unbound (free : s.bound j ≠ some m) (i : Nat) : (offAtReset m i s).element j = s.element j := by
  rcases offAtReset_cases m i s with same | ⟨n, off⟩
  · rw [same]
  · rw [off, pushIndicator_element_other fun _ _ _ _ => free]

theorem offAtReset_element_idled (m : ModuleIx) (i j : Nat) (s : State) :
    ((offAtReset m i s).element j).idled = (s.element j).idled := by
  rcases offAtReset_cases m i s with same | ⟨n, off⟩
  · rw [same]
  · rw [off, pushIndicator_element_idled]

theorem offAtReset_sameBut (m : ModuleIx) (i : Nat) (s : State) : s.sameBut (offAtReset m i s) := by
  rcases offAtReset_cases m i s with same | ⟨n, off⟩
  · rw [same]; rfl
  · rw [off]; rfl

/-- One index of a range: the off frame, then the reset (R36, R51). -/
def resetWithOff (m : ModuleIx) (s : State) (i : Nat) : State := resetContext i (offAtReset m i s)

theorem resetBoundRange_eq (m : ModuleIx) (x : ModuleEntry) (s : State) :
    resetBoundRange m x s = (if x.enabled = true then x.range else []).foldl (resetWithOff m) s := by
  unfold resetBoundRange
  split <;> rfl

theorem resetWithOff_modules (m : ModuleIx) (s : State) (i : Nat) : (resetWithOff m s i).modules = s.modules :=
  offAtReset_modules m i s

theorem resetWithOff_outbound (m : ModuleIx) (s : State) (i : Nat) :
    (resetWithOff m s i).outbound = (offAtReset m i s).outbound := rfl

theorem resetWithOff_litLamp (away : j ≠ i) (m : ModuleIx) (s : State) :
    (resetWithOff m s i).litLamp j = (offAtReset m i s).litLamp j :=
  State.litLamp_congr (by rw [resetWithOff, resetContext_element, if_neg away])

theorem foldl_resetWithOff_of_full (full : 32 ≤ s.outbound.length) (m : ModuleIx) (l : List Nat) :
    (l.foldl (resetWithOff m) s).outbound = s.outbound := by
  induction l generalizing s with
  | nil => rfl
  | cons i l ih =>
    have same : (resetWithOff m s i).outbound = s.outbound := by rw [resetWithOff_outbound, offAtReset_of_full full]
    rw [List.foldl_cons, ih (by rw [same]; exact full), same]

/-- The off frames of a fold over indices, while what is lit is what was lit at first less the lamps already sent for. -/
theorem foldl_resetWithOff_outbound (m : ModuleIx) (x : ModuleEntry) (e : State) (l : List Nat) (distinct : l.Nodup) :
    ∀ (sent : List (Fin 64)) (s : State), (∀ j, s.bound j = some m ↔ x.binds j = true) →
      (∀ j ∈ l, s.litLamp j = (e.litLamp j).filter fun n => decide (¬ (x.binds j = true ∧ n ∈ sent))) →
      (l.foldl (resetWithOff m) s).outbound =
        s.outbound ++ ((e.lampsOff x sent l).take (32 - s.outbound.length)).map (lampFrame m · false) := by
  induction l with
  | nil => intro sent s _ _; simp [State.lampsOff]
  | cons i l ih =>
    intro sent s bound lit
    by_cases full : 32 ≤ s.outbound.length
    · rw [foldl_resetWithOff_of_full full, Nat.sub_eq_zero_of_le full]
      simp
    obtain ⟨fresh, distinct⟩ := List.nodup_cons.mp distinct
    have away : ∀ j ∈ l, j ≠ i := fun j mem h => fresh (h ▸ mem)
    have binding : ∀ j, (resetWithOff m s i).bound j = some m ↔ x.binds j = true := fun j => by
      rw [State.bound_congr (resetWithOff_modules m s i), bound]
    have here := lit i List.mem_cons_self
    rw [List.foldl_cons]
    cases now : s.litLamp i with
    | none =>
      have quiet : offAtReset m i s = s := offAtReset_of_unlit (State.unlit_of_litLamp now) m
      have outbound : (resetWithOff m s i).outbound = s.outbound := by rw [resetWithOff_outbound, quiet]
      have listed : e.lampsOff x sent (i :: l) = e.lampsOff x sent l := by
        cases first : e.litLamp i with
        | none => exact State.lampsOff_of_unlit first x sent l
        | some n =>
          rw [now, first, Option.filter_some] at here
          rw [State.lampsOff_of_lit first, if_pos]
          by_contra unsent
          rw [if_pos (decide_eq_true unsent)] at here
          cases here
      rw [ih distinct sent _ binding fun j mem => ?_, outbound, listed]
      rw [resetWithOff_litLamp (away j mem), quiet, lit j (List.mem_cons_of_mem i mem)]
    | some n =>
      obtain ⟨p, c, key, lamp, on⟩ := State.litLamp_eq_some_iff.mp now
      have room := Nat.not_le.mp full
      have off : offAtReset m i s = pushIndicator m n false i s := by
        rw [offAtReset_of_lit key lamp on, requestOff_of_room room]
      have outbound : (resetWithOff m s i).outbound = s.outbound ++ [lampFrame m n false] := by
        rw [resetWithOff_outbound, off, pushIndicator_outbound]
      have first : e.litLamp i = some n ∧ ¬ (x.binds i = true ∧ n ∈ sent) := by
        rw [now, eq_comm, Option.filter_eq_some_iff] at here
        exact ⟨here.1, of_decide_eq_true here.2⟩
      rw [ih distinct (n :: sent) _ binding fun j mem => ?_, outbound, State.lampsOff_of_lit first.1, if_neg first.2]
      · obtain ⟨k, hk⟩ : ∃ k, 32 - s.outbound.length = k + 1 := ⟨31 - s.outbound.length, by omega⟩
        have left : 32 - (s.outbound ++ [lampFrame m n false]).length = k := by
          rw [List.length_append, List.length_singleton]; omega
        rw [left, hk, List.take_succ_cons, List.map_cons, List.append_assoc, List.singleton_append]
      · rw [resetWithOff_litLamp (away j mem), off, litLamp_pushIndicator (away j mem), lit j (List.mem_cons_of_mem i mem),
          Option.filter_filter]
        congr 1
        funext k
        by_cases same : k = n <;> by_cases binds : x.binds j = true <;> simp [same, binds, bound j]

/-! ## The change of entry -/

theorem ModuleEntry.range_nodup (x : ModuleEntry) : x.range.Nodup :=
  List.nodup_range.map fun _ _ h => Nat.add_left_cancel h

theorem State.boundTo_nodup (s : State) (m : ModuleIx) : (s.boundTo m).Nodup := by
  unfold State.boundTo
  split
  · exact ModuleEntry.range_nodup _
  · exact List.nodup_nil

theorem State.mem_boundTo (s : State) (m : ModuleIx) (i : Nat) : i ∈ s.boundTo m ↔ (s.module m).entry.binds i = true := by
  unfold State.boundTo
  split
  · exact ModuleEntry.mem_range_iff ‹_›
  · rename_i off
    exact ⟨fun h => absurd h List.not_mem_nil, fun h => absurd h (ModuleEntry.not_binds_of_disabled off i)⟩

/-- With its new entry apart from the others, a module binds the indices of that entry. -/
theorem State.bound_installed {y : Module} (entry : y.entry = x) (apart : s.overlaps m x = false) (j : Nat) :
    (s.setModule m y).bound j = some m ↔ x.binds j = true := by
  rw [State.bound_eq_some_iff, State.module_setModule, entry, and_iff_left_iff_imp]
  intro binds k below
  rw [State.module_setModule_of_ne _ (ne_of_lt below), Bool.eq_false_iff]
  intro shared
  exact ne_of_lt below (State.apart_of_not_overlaps (by rw [apart]; decide) k j shared binds)

theorem resetWithOff_element_of_unbound (free : s.bound j ≠ some m) (i : Nat) :
    (resetWithOff m s i).element j = if j = i then (s.element j).idled else s.element j := by
  rw [resetWithOff, resetContext_element, offAtReset_element_of_unbound free]

theorem resetWithOff_element_idled (m : ModuleIx) (i j : Nat) (s : State) :
    ((resetWithOff m s i).element j).idled = (s.element j).idled := by
  rw [resetWithOff, resetContext_element]
  split
  · rw [Element.idled_idled, offAtReset_element_idled]
  · exact offAtReset_element_idled m i j s

theorem resetWithOff_sameBut (m : ModuleIx) (s : State) (i : Nat) : s.sameBut (resetWithOff m s i) :=
  (offAtReset_sameBut m i s).trans (show State.sameBut _ _ from rfl)

/-- What the change of entry leaves, once the sweep is dropped and the entry installed (R36). -/
theorem mapped_foldl_resetWithOff {y : Module} {o : List OutFrame} (entry : y.entry = x) (apart : s.overlaps m x = false)
    (ho : o = s.outbound ++ ((s.lampsOff x [] (s.boundTo m)).take (32 - s.outbound.length)).map (lampFrame m · false)) :
    Mapped m x s (enterMapped m x (resetRange x ((s.boundTo m).foldl (resetWithOff m) (s.setModule m y)))) y o := by
  have bound := State.bound_installed entry apart
  have modules : ((s.boundTo m).foldl (resetWithOff m) (s.setModule m y)).modules = (s.setModule m y).modules :=
    foldl_keeps (P := fun t => t.modules = (s.setModule m y).modules) (fun t i h => (resetWithOff_modules m t i).trans h) _ rfl
  have outbound : ((s.boundTo m).foldl (resetWithOff m) (s.setModule m y)).outbound = o :=
    (foldl_resetWithOff_outbound m x s (s.boundTo m) (s.boundTo_nodup m) [] (s.setModule m y) bound fun j _ => by
      rw [State.litLamp_congr (s := s) (t := s.setModule m y) rfl]; cases s.litLamp j <;> simp [Option.filter_some]).trans ho.symm
  rw [← outbound]
  refine mapped_enterMapped ((sameBut_setModule s m y).trans (sameBut_foldl (resetWithOff_sameBut m) _ _)) ?_
    (fun k away => ?_) (fun i => ?_) fun i free => ?_
  · rw [State.module_congr modules, State.module_setModule]
  · rw [State.module_congr modules, State.module_setModule_of_ne _ away]
  · exact foldl_keeps (P := fun t => (t.element i).idled = (s.element i).idled)
      (fun t k h => (resetWithOff_element_idled m k i t).trans h) _ rfl
  · have unbound : ∀ t : State, t.modules = (s.setModule m y).modules → t.bound i ≠ some m := fun t same here => by
      rw [State.bound_congr same, bound, free] at here
      cases here
    have element := foldl_element (f := resetWithOff m) (P := fun t => t.modules = (s.setModule m y).modules)
      (fun t k h => (resetWithOff_modules m t k).trans h)
      (fun t k h => resetWithOff_element_of_unbound (unbound t h) k) (s.boundTo m) (s := s.setModule m y) rfl
    simp only [State.mem_boundTo] at element
    exact element

theorem installAtOnce_eq (m : ModuleIx) (x : ModuleEntry) (s : State) : installAtOnce m x s =
    enterMapped m x (resetRange x ((s.boundTo m).foldl (resetWithOff m) (s.setModule m
      { s.module m with entry := x, sweep := ⟨[], false, 0⟩, mark := .recording }))) := by
  rw [installAtOnce, dropSweep_eq]
  simp only [State.updModule, State.module_setModule, State.setModule_setModule, resetBoundRange_eq]
  rfl

theorem carryWriteModule_of_rest {r : Request} (change : (s.module m).entry ≠ x) (rest : (s.module m).state ≠ .active) :
    carryWriteModule r m x s = done r (installAtOnce m x s) := by
  rw [carryWriteModule, if_neg change]
  cases state : (s.module m).state with
  | active => exact absurd state rest
  | unmapped | waiting | silent | draining => rfl

/-- Settles O17: the change of entry at once, with the off frames of the old range. -/
theorem writeModuleTakesEffectAtOnce : Obligations.WriteModuleTakesEffectAtOnce := by
  intro tag a enabled base count m x s e o idle he ha low high sum hx apart change rest ho
  have mapped := mapped_foldl_resetWithOff (y := { e.module m with
    entry := x, sweep := ⟨[], false, 0⟩, mark := .recording }) rfl apart ho
  rw [← installAtOnce_eq] at mapped
  obtain ⟨self, other, idled, kept, outbound, same⟩ := mapped
  have carried := carryOut_writeModule_of_fields (tag := tag) (enabled := enabled) ha low high sum hx false e
  rw [if_neg (by rw [apart]; decide), carryWriteModule_of_rest change rest] at carried
  have desk := installAtOnce_desk e m x
  exact ⟨installAtOnce m x e, exec_request_answered (code := 5) idle he (by simp [wordBytes])
    (restartForm_of_code (by decide)) carried (State.wires_of_desk desk) (State.head_of_desk desk),
    same, self, other, idled, kept, outbound⟩

end Sys2Proof.Machine
